-- ==== Sys2Proof/Word.lean ====
section
/-! DEFINITION. The word types of the MIDI byte-stream decoder (spec rules R5, R6): an 8-bit byte, a 7-bit data value
and the 4-bit nibble of a Channel status byte. All quantities are unsigned. -/

namespace Sys2Proof

/-- A byte of the stream, bits 7 down to 0 (R6). -/
abbrev Byte := BitVec 8

/-- The value `b[6:0]` of a data byte, 0x00..0x7F (R17, R45). -/
abbrev Data7 := BitVec 7

/-- `b[7:4]` or `b[3:0]` of a byte (R6, R50). -/
abbrev Nibble := BitVec 4

end Sys2Proof
end

