-- ==== Sys2Proof/Syntax.lean ====
section
/-! DEFINITION. The instructions: one input byte is one instruction (R45), and the 24 rows of R54
(spec/opcode_table.json) cover all 256 values. -/

namespace Sys2Proof

/-- One constructor per row of the opcode table, in the table's order. The operand `c` of a Channel status byte is its
channel nibble `b[3:0]`, the operand `v` of a data byte its value `b[6:0]`. -/
inductive Instr where
  /-- `DATA`, 0vvvvvvv (R110) -/
  | data (v : Data7)
  /-- `ST_NOTE_OFF`, 1000cccc (R101) -/
  | stNoteOff (c : Nibble)
  /-- `ST_NOTE_ON`, 1001cccc (R102) -/
  | stNoteOn (c : Nibble)
  /-- `ST_POLY_PRESSURE`, 1010cccc (R103) -/
  | stPolyPressure (c : Nibble)
  /-- `ST_CONTROL_CHANGE`, 1011cccc (R104) -/
  | stControlChange (c : Nibble)
  /-- `ST_PROGRAM_CHANGE`, 1100cccc (R105) -/
  | stProgramChange (c : Nibble)
  /-- `ST_CHANNEL_PRESSURE`, 1101cccc (R106) -/
  | stChannelPressure (c : Nibble)
  /-- `ST_PITCH_BEND`, 1110cccc (R107) -/
  | stPitchBend (c : Nibble)
  /-- `SOX`, 0xF0 (R80) -/
  | sox
  /-- `UNDEF_F1`, 0xF1 (R90) -/
  | undefF1
  /-- `ST_SONG_POSITION`, 0xF2 (R91) -/
  | stSongPosition
  /-- `ST_SONG_SELECT`, 0xF3 (R92) -/
  | stSongSelect
  /-- `UNDEF_F4`, 0xF4 (R93) -/
  | undefF4
  /-- `UNDEF_F5`, 0xF5 (R94) -/
  | undefF5
  /-- `TUNE_REQUEST`, 0xF6 (R95) -/
  | tuneRequest
  /-- `EOX`, 0xF7 (R82, R83) -/
  | eox
  /-- `TIMING_CLOCK`, 0xF8 (R71) -/
  | timingClock
  /-- `UNDEF_F9`, 0xF9 (R77) -/
  | undefF9
  /-- `START`, 0xFA (R72) -/
  | start
  /-- `CONTINUE`, 0xFB (R73) -/
  | continue_
  /-- `STOP`, 0xFC (R74) -/
  | stop
  /-- `UNDEF_FD`, 0xFD (R78) -/
  | undefFD
  /-- `ACTIVE_SENSING`, 0xFE (R75) -/
  | activeSensing
  /-- `SYSTEM_RESET`, 0xFF (R76) -/
  | systemReset
deriving DecidableEq, Repr

end Sys2Proof
end

