-- ==== Sys2Proof/WellFormed.lean ====
section
/-! DEFINITION. The byte classes of R46 to R48, and well-formedness. Every byte of the stream is a legal instruction
(R45: "every one of the 256 values is accepted") and the operand widths are types, so no term of `Instr` is ill-formed:
`Instr.wellFormed` refuses nothing. What can be ill-formed is a BYTE for a place that takes only one class; the six
class tests below are those checks, and each refuses the bytes of the other classes. -/

namespace Sys2Proof

/-- Data byte, 0x00..0x7F: `b[7] = 0` (R46). -/
def isDataByte (b : Byte) : Bool := b.extractLsb' 7 1 == 0

/-- Channel Voice/Mode status byte, 0x80..0xEF: `b[7] = 1` and `b[7:4] != 0xF` (R47). -/
def isChannelStatus (b : Byte) : Bool := b.extractLsb' 7 1 == 1 && b.extractLsb' 4 4 != 0xF

/-- System Common status byte, SysEx start and end included, 0xF0..0xF7: `b[7:3] = 0b11110` (R47). -/
def isSystemCommon (b : Byte) : Bool := b.extractLsb' 3 5 == 0b11110

/-- System Real-Time status byte, 0xF8..0xFF: `b[7:3] = 0b11111` (R47). -/
def isRealTime (b : Byte) : Bool := b.extractLsb' 3 5 == 0b11111

/-- A status byte that a `SYSCOM` shape can hold: 0xF2 or 0xF3 (R12). -/
def isAwaitedSystemCommon (b : Byte) : Bool := b == 0xF2 || b == 0xF3

/-- The five values to which the source assigns no message (R55). -/
def isUndefinedStatus (b : Byte) : Bool := b == 0xF1 || b == 0xF4 || b == 0xF5 || b == 0xF9 || b == 0xFD

/-- Every instruction is well-formed: its operands have exactly the widths of the format of R45. -/
def Instr.wellFormed : Instr → Bool := fun _ => true

end Sys2Proof
end

