-- ==== Sys2Proof/Decode.lean ====
section
/-! DEFINITION. The decoder of one input byte into its opcode row, and after it the encoder, both from R45 and R54;
the opcode table itself as data; the expansion of the two shorthands of R60. -/

namespace Sys2Proof

/-- The rows 0xF0..0xFF of R54, by the low nibble. -/
def decodeSystem (low : Nibble) : Instr :=
  match low with
  | 0x0 => .sox
  | 0x1 => .undefF1
  | 0x2 => .stSongPosition
  | 0x3 => .stSongSelect
  | 0x4 => .undefF4
  | 0x5 => .undefF5
  | 0x6 => .tuneRequest
  | 0x7 => .eox
  | 0x8 => .timingClock
  | 0x9 => .undefF9
  | 0xA => .start
  | 0xB => .continue_
  | 0xC => .stop
  | 0xD => .undefFD
  | 0xE => .activeSensing
  | _   => .systemReset

/-- The instruction of a byte: total on all 256 values, and a function of the byte alone (R45, R48, R54). -/
def decode (b : Byte) : Instr :=
  if isDataByte b then .data (b.extractLsb' 0 7)
  else
    match b.extractLsb' 4 4 with
    | 0x8 => .stNoteOff (b.extractLsb' 0 4)
    | 0x9 => .stNoteOn (b.extractLsb' 0 4)
    | 0xA => .stPolyPressure (b.extractLsb' 0 4)
    | 0xB => .stControlChange (b.extractLsb' 0 4)
    | 0xC => .stProgramChange (b.extractLsb' 0 4)
    | 0xD => .stChannelPressure (b.extractLsb' 0 4)
    | 0xE => .stPitchBend (b.extractLsb' 0 4)
    | _   => decodeSystem (b.extractLsb' 0 4)

/-- Why a byte list yields no instruction. -/
inductive DecodeError where
  /-- Raised by `decodeBytes` on the empty list: no byte is presented. Safe: no instruction is invented. -/
  | noByte
deriving DecidableEq, Repr

/-- The first instruction of a byte list with the rest of the list. Every instruction is exactly one byte (R45), so only
the empty list is rejected. -/
def decodeBytes : List Byte → Except DecodeError (Instr × List Byte)
  | [] => .error .noByte
  | b :: rest => .ok (decode b, rest)

/-- A whole stream, earliest byte first (R7). -/
def decodeStream (w : List Byte) : List Instr := w.map decode

/-- The byte of an instruction, from the patterns of R54. -/
def encode : Instr → Byte
  | .data v => 0#1 ++ v
  | .stNoteOff c => 0x8#4 ++ c
  | .stNoteOn c => 0x9#4 ++ c
  | .stPolyPressure c => 0xA#4 ++ c
  | .stControlChange c => 0xB#4 ++ c
  | .stProgramChange c => 0xC#4 ++ c
  | .stChannelPressure c => 0xD#4 ++ c
  | .stPitchBend c => 0xE#4 ++ c
  | .sox => 0xF0
  | .undefF1 => 0xF1
  | .stSongPosition => 0xF2
  | .stSongSelect => 0xF3
  | .undefF4 => 0xF4
  | .undefF5 => 0xF5
  | .tuneRequest => 0xF6
  | .eox => 0xF7
  | .timingClock => 0xF8
  | .undefF9 => 0xF9
  | .start => 0xFA
  | .continue_ => 0xFB
  | .stop => 0xFC
  | .undefFD => 0xFD
  | .activeSensing => 0xFE
  | .systemReset => 0xFF

/-- The words of an instruction: one byte, never more (R45). -/
def encodeBytes (i : Instr) : List Byte := [encode i]

/-- The byte list of a list of instructions, in order (R59: the byte list is the normative form). -/
def encodeStream : List Instr → List Byte
  | [] => []
  | i :: rest => encodeBytes i ++ encodeStream rest

/-- The name of an instruction's row in R54. -/
def Instr.mnemonic : Instr → String
  | .data _ => "DATA"
  | .stNoteOff _ => "ST_NOTE_OFF"
  | .stNoteOn _ => "ST_NOTE_ON"
  | .stPolyPressure _ => "ST_POLY_PRESSURE"
  | .stControlChange _ => "ST_CONTROL_CHANGE"
  | .stProgramChange _ => "ST_PROGRAM_CHANGE"
  | .stChannelPressure _ => "ST_CHANNEL_PRESSURE"
  | .stPitchBend _ => "ST_PITCH_BEND"
  | .sox => "SOX"
  | .undefF1 => "UNDEF_F1"
  | .stSongPosition => "ST_SONG_POSITION"
  | .stSongSelect => "ST_SONG_SELECT"
  | .undefF4 => "UNDEF_F4"
  | .undefF5 => "UNDEF_F5"
  | .tuneRequest => "TUNE_REQUEST"
  | .eox => "EOX"
  | .timingClock => "TIMING_CLOCK"
  | .undefF9 => "UNDEF_F9"
  | .start => "START"
  | .continue_ => "CONTINUE"
  | .stop => "STOP"
  | .undefFD => "UNDEF_FD"
  | .activeSensing => "ACTIVE_SENSING"
  | .systemReset => "SYSTEM_RESET"

/-- One row of the opcode table: a byte `b` selects it when `b & mask = match` (R54). -/
structure OpcodeRow where
  mnemonic : String
  pattern : Byte
  mask : Byte
deriving DecidableEq, Repr

/-- The 24 rows of R54 with their `match` and `mask` columns. -/
def opcodeRows : List OpcodeRow :=
  [⟨"DATA", 0x00, 0x80⟩,
   ⟨"ST_NOTE_OFF", 0x80, 0xF0⟩, ⟨"ST_NOTE_ON", 0x90, 0xF0⟩, ⟨"ST_POLY_PRESSURE", 0xA0, 0xF0⟩,
   ⟨"ST_CONTROL_CHANGE", 0xB0, 0xF0⟩, ⟨"ST_PROGRAM_CHANGE", 0xC0, 0xF0⟩, ⟨"ST_CHANNEL_PRESSURE", 0xD0, 0xF0⟩,
   ⟨"ST_PITCH_BEND", 0xE0, 0xF0⟩,
   ⟨"SOX", 0xF0, 0xFF⟩, ⟨"UNDEF_F1", 0xF1, 0xFF⟩, ⟨"ST_SONG_POSITION", 0xF2, 0xFF⟩, ⟨"ST_SONG_SELECT", 0xF3, 0xFF⟩,
   ⟨"UNDEF_F4", 0xF4, 0xFF⟩, ⟨"UNDEF_F5", 0xF5, 0xFF⟩, ⟨"TUNE_REQUEST", 0xF6, 0xFF⟩, ⟨"EOX", 0xF7, 0xFF⟩,
   ⟨"TIMING_CLOCK", 0xF8, 0xFF⟩, ⟨"UNDEF_F9", 0xF9, 0xFF⟩, ⟨"START", 0xFA, 0xFF⟩, ⟨"CONTINUE", 0xFB, 0xFF⟩,
   ⟨"STOP", 0xFC, 0xFF⟩, ⟨"UNDEF_FD", 0xFD, 0xFF⟩, ⟨"ACTIVE_SENSING", 0xFE, 0xFF⟩, ⟨"SYSTEM_RESET", 0xFF, 0xFF⟩]

/-- The byte `b` selects the row (R54). -/
def OpcodeRow.selects (r : OpcodeRow) (b : Byte) : Bool := b &&& r.mask == r.pattern

/-- The shorthand "`NoteOn ch, n, v`" (R60): the three bytes `[0x90 | ch, n, v]`. -/
def expandNoteOn (ch : Nibble) (n v : Data7) : List Instr := [.stNoteOn ch, .data n, .data v]

/-- The shorthand "`rs n, v`" (R60): the two bytes `[n, v]`, sent while running status is set. -/
def expandRs (n v : Data7) : List Instr := [.data n, .data v]

/-- The byte an opcode-table word of `nbits` bits stands for: bits 7..0 of `w`. -/
def byteOfTableWord (w : Nat) : Byte := BitVec.ofNat 8 w

/-- What the decoder reads from an opcode-table word. No instruction is longer than one byte (R45), so a row of more
than 8 bits, or a word with a bit above bit 7, is none of this hardware's. -/
def decodeTableWord (nbits w : Nat) : Option Instr :=
  if nbits ≤ 8 ∧ w < 256 then
    match decodeBytes [byteOfTableWord w] with
    | .ok (i, _) => some i
    | .error _ => none
  else none

end Sys2Proof
end

