-- ==== Sys2Proof/Config.lean ====
section
/-! DEFINITION. What one built decoder fixes (R5). The parameter `PIN_TIMING` is OPEN and read by no rule, so it has no
field (log entry 5). No value of this hardware is left open to a step (R162), so there is no free value to draw. -/

namespace Sys2Proof

/-- The build-time parameters (R5). -/
structure Config where
  /-- `SYSEX_CAP`: the largest SysEx payload the accumulator can hold; `none` is `INF` (R5, R31). -/
  sysexCap : Option Nat
deriving DecidableEq, Repr

/-- The default of R5: `SYSEX_CAP = INF`, the unbounded payload of the source. -/
def Config.default : Config := { sysexCap := none }

end Sys2Proof
end

