-- ==== Sys2Proof/Machine/State.lean ====
section
/-! DEFINITION. The state of the decoder (R10 to R12), the output record (R24), the ports (R26), the reasons a step can
stop (none, R143) and the state after reset (R23, R150). -/

namespace Sys2Proof.Machine

/-- The seven Channel Voice/Mode message types, type nibbles 0x8 to 0xE (R51). -/
inductive ChanKind where
  | noteOff | noteOn | polyPressure | controlChange | programChange | channelPressure | pitchBend
deriving DecidableEq, Repr

/-- A Channel status byte 0x80..0xEF taken apart: its type nibble and its channel nibble (R50). The 7 × 16 values are
exactly the values `s` that `RS = SOME(s)` can hold (R11); `ChanStatus.toByte` gives the byte. -/
structure ChanStatus where
  kind : ChanKind
  chan : Nibble
deriving DecidableEq, Repr

/-- The two System Common status bytes that await data bytes: 0xF2 and 0xF3 (R12, R91, R92). -/
inductive SysComKind where
  | songPosition | songSelect
deriving DecidableEq, Repr

/-- `PEND`, the pending-message register: the four shapes of R12. `need` is computed from the status
(`ChanKind.need`, `SysComKind.need`), since R12 says it holds no independent information. -/
inductive Pend where
  /-- `NONE`: no message in progress -/
  | empty
  /-- `CHAN(st, need_of(st), data)` -/
  | chan (st : ChanStatus) (data : List Data7)
  /-- `SYSCOM(st, need_of(st), data)` -/
  | sysCom (k : SysComKind) (data : List Data7)
  /-- `SYSEX(payload)`; the payload is the only buffer of the block (R30) -/
  | sysEx (payload : List Data7)
deriving DecidableEq, Repr

/-- The reason of a `Malformed` message (R130). -/
inductive Reason where
  | orphanData | unexpectedEox | undefinedStatus | sysexOverflow
deriving DecidableEq, Repr

/-- A Decoded Message: the closed sum of R24, in its order. -/
inductive Message where
  | noteOff (chan : Nibble) (note vel : Data7)
  | noteOn (chan : Nibble) (note vel : Data7)
  | polyPressure (chan : Nibble) (note pressure : Data7)
  | controlChange (chan : Nibble) (controller value : Data7)
  | programChange (chan : Nibble) (program : Data7)
  | channelPressure (chan : Nibble) (pressure : Data7)
  | pitchBend (chan : Nibble) (lsb msb : Data7)
  | sysEx (payload : List Data7)
  | songPosition (lsb msb : Data7)
  | songSelect (song : Data7)
  | tuneRequest
  | timingClock
  | start
  | continue_
  | stop
  | activeSensing
  | systemReset
  | malformed (byte : Byte) (reason : Reason)
deriving DecidableEq, Repr

/-- What the environment drives on the input ports at one step boundary (R26). `inByte` means nothing while
`inValid = false`, and no rule reads it then (U6). -/
structure PortIn where
  reset : Bool
  inValid : Bool
  inByte : Byte
deriving DecidableEq, Repr

/-- The state. `rs` and `pend` are the whole architectural state (R10); `cfg` is the build (R5), written by no step;
`input`, `out` and `sink` are the ports and the environment (R26, R155, R157), read by no rule of the decoder. -/
structure State where
  /-- `RS`, the running-status register (R11) -/
  rs : Option ChanStatus
  /-- `PEND`, the pending-message register (R12) -/
  pend : Pend
  /-- the build-time parameters of this decoder (R5; log entry 3) -/
  cfg : Config
  /-- the Byte Source: the port samples still to come, next one first (R155; log entry 1) -/
  input : List PortIn
  /-- `out_valid` and `out_msg` of the last step boundary: `none` is `out_valid = 0` (R26) -/
  out : Option Message
  /-- the Sink: every message it has taken, oldest first (R7, R157; log entry 2) -/
  sink : List Message
deriving DecidableEq, Repr

/-- The faults: none. "The block cannot fault, hang, become stuck or refuse an input" (R143), so nothing raises one. -/
inductive Fault where
deriving DecidableEq, Repr

/-- The refusals. -/
inductive Refusal where
  /-- Raised by an arm of `exec` that has no meaning yet; no arm of this model raises it. Safe: the machine stops. -/
  | notModelled (mnemonic : String)
deriving DecidableEq, Repr

/-- A decoder of the given build right after reset or power-on: `RS = NONE`, `PEND = NONE` (R23, R150), nothing
presented and nothing emitted yet. -/
def State.resetWith (cfg : Config) : State :=
  { rs := none, pend := .empty, cfg := cfg, input := [], out := none, sink := [] }

/-- The machine right after reset, with the default parameters of R5. -/
def State.reset : State := State.resetWith Config.default

end Sys2Proof.Machine
end

