-- ==== Sys2Proof/Machine/Ops.lean ====
section
/-! DEFINITION. The named operations over the two registers, the SysEx buffer, the output and the ports. There is no
addressed memory (R30), no register file (R10) and no trap entry or return (R135, R136): in their place stand the four
buffer operations of R32 and the one in-band report `State.report`, which every Malformed condition uses. -/

namespace Sys2Proof.Machine

/-- `RS <- v` (R8). -/
def State.setRs (v : Option ChanStatus) (s : State) : State := { s with rs := v }

/-- `PEND <- v` (R8). -/
def State.setPend (v : Pend) (s : State) : State := { s with pend := v }

/-- A step that executes no `emit`: its output is `NONE` (R8), so `out_valid = 0` (R26). -/
def State.silent (s : State) : State := { s with out := none }

/-- `emit m` (R8): the step's output is `SOME(m)`, and the Sink takes the message in the same step (R157). -/
def State.emit (m : Message) (s : State) : State := { s with out := some m, sink := s.sink ++ [m] }

/-- Reporting a Malformed condition, the one operation in the place of trap entry: the message is emitted in band,
nothing else is saved, masked or transferred (R130, R135). What each condition writes to `RS` and `PEND` is said where
it is raised (R131, R132, R134, R137). -/
def State.report (b : Byte) (r : Reason) (s : State) : State := s.emit (.malformed b r)

/-- The reset state of R23 in the two registers. -/
def State.clear (s : State) : State := (s.setRs none).setPend .empty

/-- The buffer of a new SysEx, empty (R32 "create empty", R80). -/
def State.openSysEx (s : State) : State := (s.setRs none).setPend (.sysEx [])

/-- Append one data byte to the payload (R32 "append", R111). -/
def State.appendSysEx (payload : List Data7) (v : Data7) (s : State) : State := s.setPend (.sysEx (payload ++ [v]))

/-- A Channel status byte: running status and a pending message with no data yet (R100). Whatever was pending is
discarded without emission (R133). -/
def State.openChannel (st : ChanStatus) (s : State) : State := (s.setRs (some st)).setPend (.chan st [])

/-- A System Common status byte that awaits data: no running status, a Channel-less pending message (R96). -/
def State.openSysCom (k : SysComKind) (s : State) : State := (s.setRs none).setPend (.sysCom k [])

/-- The sample on the input ports at this step boundary. When the environment has nothing left to present, the ports
are idle: `reset = 0`, `in_valid = 0` (R152; log entry 14), and `in_byte` is read by no rule. -/
def State.portNow (s : State) : PortIn := s.input.headD { reset := false, inValid := false, inByte := 0 }

/-- The sample is consumed: each is presented exactly once (R155). -/
def State.takePort (s : State) : State := { s with input := s.input.tail }

/-- The `reset` port at 1: the reset state, whatever it was, and no message (R150, R151). -/
def State.applyReset (s : State) : State := s.clear.silent

/-- `reset = 0` and `in_valid = 0`: nothing happens and `out_valid = 0` (R26). -/
def State.idle (s : State) : State := s.silent

/-- The Byte Source presents the byte `b` at the next step boundary, before everything it still holds. -/
def State.present (b : Byte) (s : State) : State :=
  { s with input := { reset := false, inValid := true, inByte := b } :: s.input }

end Sys2Proof.Machine
end

