-- ==== Sys2Proof/Machine/Operands.lean ====
section
/-! DEFINITION. The operands: type and channel nibble of a status byte (R50, R51), `need_of` (R49), the fields of a
completed message and `decode` (R115), and a data byte as the 8-bit byte it is (R130). -/

namespace Sys2Proof.Machine

/-- The type nibble `st[7:4]` of a Channel message type (R51). -/
def ChanKind.nibble : ChanKind → Nibble
  | .noteOff => 0x8
  | .noteOn => 0x9
  | .polyPressure => 0xA
  | .controlChange => 0xB
  | .programChange => 0xC
  | .channelPressure => 0xD
  | .pitchBend => 0xE

/-- The Channel status byte: type nibble above channel nibble (R45, R50). -/
def ChanStatus.toByte (st : ChanStatus) : Byte := st.kind.nibble ++ st.chan

/-- The status byte of a System Common message that awaits data (R52). -/
def SysComKind.toByte : SysComKind → Byte
  | .songPosition => 0xF2
  | .songSelect => 0xF3

/-- `need_of` of a Channel status byte: 1 for type nibbles 0xC and 0xD, else 2 (R49). -/
def ChanKind.need : ChanKind → Nat
  | .programChange => 1
  | .channelPressure => 1
  | .noteOff => 2
  | .noteOn => 2
  | .polyPressure => 2
  | .controlChange => 2
  | .pitchBend => 2

/-- `need_of` of 0xF2 and 0xF3 (R49). -/
def SysComKind.need : SysComKind → Nat
  | .songPosition => 2
  | .songSelect => 1

/-- The data byte with value `v` as the byte that arrived: `b[7] = 0`, `b[6:0] = v` (R45, R110). -/
def dataByte (v : Data7) : Byte := 0#1 ++ v

/-- `data[0]`, the earlier-arrived data byte (R35). `decode` runs only on complete data, where it exists. -/
def first (data : List Data7) : Data7 := data.getD 0 0

/-- `data[1]`, the later-arrived data byte (R35). `decode` reads it only where `need_of(st) = 2`. -/
def second (data : List Data7) : Data7 := data.getD 1 0

/-- A completed Note-On group: velocity 0 is normalised to Note-Off (R118). -/
def decodeNoteOn (c : Nibble) (n v : Data7) : Message :=
  if v = 0 then .noteOff c n 0 else .noteOn c n v

/-- `decode(st, data)` for a Channel status byte, called only with `|data| = need_of(st)` (R115, R117 to R123). -/
def decodeChan (st : ChanStatus) (data : List Data7) : Message :=
  match st.kind with
  | .noteOff => .noteOff st.chan (first data) (second data)
  | .noteOn => decodeNoteOn st.chan (first data) (second data)
  | .polyPressure => .polyPressure st.chan (first data) (second data)
  | .controlChange => .controlChange st.chan (first data) (second data)
  | .programChange => .programChange st.chan (first data)
  | .channelPressure => .channelPressure st.chan (first data)
  | .pitchBend => .pitchBend st.chan (first data) (second data)

/-- `decode(st, data)` for 0xF2 and 0xF3 (R115, R126, R127). -/
def decodeSysCom (k : SysComKind) (data : List Data7) : Message :=
  match k with
  | .songPosition => .songPosition (first data) (second data)
  | .songSelect => .songSelect (first data)

/-- The 14-bit value a CONSUMER of `PitchBend` or `SongPosition` computes, `(msb << 7) | lsb`; no rule of the decoder
uses it (R53). -/
def value14 (lsb msb : Data7) : BitVec 14 := msb ++ lsb

/-- The conventional channel number a CONSUMER displays, `chan + 1`, 1 to 16; the decoder outputs the nibble (R25). -/
def displayChannel (c : Nibble) : Nat := c.toNat + 1

end Sys2Proof.Machine
end

