-- ==== Sys2Proof/Machine/Flags.lean ====
section
/-! DEFINITION. The block has no flag and no condition code (R19). What stands here are the conditions its rules test:
the two derived predicates of R19, whether a fixed-length message is complete (R113), and whether the SysEx buffer is
full (R111, R112). -/

namespace Sys2Proof.Machine

/-- `rs_valid`: `RS != NONE` (R19). -/
def State.rsValid (s : State) : Bool := s.rs.isSome

/-- `sysex_active`: `PEND` has the shape `SYSEX(...)` (R19). -/
def State.sysexActive (s : State) : Bool :=
  match s.pend with
  | .sysEx _ => true
  | .empty => false
  | .chan _ _ => false
  | .sysCom _ _ => false

/-- `|data'| == need`: the byte just appended was the last of its message (R113). -/
def isComplete (need : Nat) (data : List Data7) : Bool := data.length == need

/-- The buffer already holds `SYSEX_CAP` bytes: never when `SYSEX_CAP = INF` (R111, R112). -/
def bufferFull (cfg : Config) (payload : List Data7) : Bool :=
  match cfg.sysexCap with
  | none => false
  | some cap => decide (cap ≤ payload.length)

end Sys2Proof.Machine
end

