-- ==== Sys2Proof/Machine/Channel.lean ====
section
/-! DEFINITION. Channel Voice/Mode status bytes 0x80..0xEF (43_channel_status.md, R100 to R108). -/

namespace Sys2Proof.Machine

/-- `channel_status(b)`: set running status, open a pending message, emit nothing, whatever the state was (R100). -/
def channelStatus (kind : ChanKind) (c : Nibble) (s : State) : State :=
  (s.openChannel { kind := kind, chan := c }).silent

/-- `ST_NOTE_OFF` (R101). -/
def execStNoteOff (c : Nibble) (s : State) : Host.Outcome State Fault Refusal := .next (channelStatus .noteOff c s)

/-- `ST_NOTE_ON` (R102). -/
def execStNoteOn (c : Nibble) (s : State) : Host.Outcome State Fault Refusal := .next (channelStatus .noteOn c s)

/-- `ST_POLY_PRESSURE` (R103). -/
def execStPolyPressure (c : Nibble) (s : State) : Host.Outcome State Fault Refusal :=
  .next (channelStatus .polyPressure c s)

/-- `ST_CONTROL_CHANGE` (R104). -/
def execStControlChange (c : Nibble) (s : State) : Host.Outcome State Fault Refusal :=
  .next (channelStatus .controlChange c s)

/-- `ST_PROGRAM_CHANGE` (R105). -/
def execStProgramChange (c : Nibble) (s : State) : Host.Outcome State Fault Refusal :=
  .next (channelStatus .programChange c s)

/-- `ST_CHANNEL_PRESSURE` (R106). -/
def execStChannelPressure (c : Nibble) (s : State) : Host.Outcome State Fault Refusal :=
  .next (channelStatus .channelPressure c s)

/-- `ST_PITCH_BEND` (R107). -/
def execStPitchBend (c : Nibble) (s : State) : Host.Outcome State Fault Refusal :=
  .next (channelStatus .pitchBend c s)

end Sys2Proof.Machine
end

