-- ==== Sys2Proof/Machine/Data.lean ====
section
/-! DEFINITION. Data bytes 0x00..0x7F (44_data_byte.md, R110 to R116): where every multi-byte message is completed. A
data byte never writes `RS`. -/

namespace Sys2Proof.Machine

/-- `sysex_append(p, b)`: append silently (R111), or, with the buffer full, report the overflow and discard the whole
SysEx (R112, R137). -/
def sysexAppend (p : List Data7) (v : Data7) (s : State) : State :=
  if bufferFull s.cfg p then (s.setPend .empty).report (dataByte v) .sysexOverflow
  else (s.appendSysEx p v).silent

/-- `fixed_append` on a `CHAN` shape: the last byte of the message emits it and clears `PEND`, an earlier one is kept
(R113). Under running status it is applied to the synthesised shape with no data (R114). -/
def chanAppend (st : ChanStatus) (data : List Data7) (v : Data7) (s : State) : State :=
  if isComplete st.kind.need (data ++ [v]) then (s.setPend .empty).emit (decodeChan st (data ++ [v]))
  else (s.setPend (.chan st (data ++ [v]))).silent

/-- `fixed_append` on a `SYSCOM` shape, which stays a `SYSCOM` shape until it completes (R113). -/
def sysComAppend (k : SysComKind) (data : List Data7) (v : Data7) (s : State) : State :=
  if isComplete k.need (data ++ [v]) then (s.setPend .empty).emit (decodeSysCom k (data ++ [v]))
  else (s.setPend (.sysCom k (data ++ [v]))).silent

/-- `orphan(b)`: no pending message and no running status; the byte is reported and no state is written (R116). -/
def orphan (v : Data7) (s : State) : State := s.report (dataByte v) .orphanData

/-- `DATA`: the priority order of R110. -/
def execData (v : Data7) (s : State) : Host.Outcome State Fault Refusal :=
  match s.pend with
  | .sysEx p => .next (sysexAppend p v s)
  | .chan st data => .next (chanAppend st data v s)
  | .sysCom k data => .next (sysComAppend k data v s)
  | .empty =>
    match s.rs with
    | some st => .next (chanAppend st [] v s)
    | none => .next (orphan v s)

end Sys2Proof.Machine
end

