-- ==== Sys2Proof/Machine/RealTime.lean ====
section
/-! DEFINITION. System Real-Time bytes 0xF8..0xFF (40_realtime.md, R70 to R79): each emits exactly one message and
neither reads nor writes `RS` and `PEND`. -/

namespace Sys2Proof.Machine

/-- `TIMING_CLOCK` (R71). -/
def execTimingClock (s : State) : Host.Outcome State Fault Refusal := .next (s.emit .timingClock)

/-- `UNDEF_F9` (R77). -/
def execUndefF9 (s : State) : Host.Outcome State Fault Refusal := .next (s.report 0xF9 .undefinedStatus)

/-- `START` (R72). -/
def execStart (s : State) : Host.Outcome State Fault Refusal := .next (s.emit .start)

/-- `CONTINUE` (R73). -/
def execContinue (s : State) : Host.Outcome State Fault Refusal := .next (s.emit .continue_)

/-- `STOP` (R74). -/
def execStop (s : State) : Host.Outcome State Fault Refusal := .next (s.emit .stop)

/-- `UNDEF_FD` (R78). -/
def execUndefFD (s : State) : Host.Outcome State Fault Refusal := .next (s.report 0xFD .undefinedStatus)

/-- `ACTIVE_SENSING` (R75). -/
def execActiveSensing (s : State) : Host.Outcome State Fault Refusal := .next (s.emit .activeSensing)

/-- `SYSTEM_RESET` (R76): reported like any other Real-Time byte; it does not reset the decoder. -/
def execSystemReset (s : State) : Host.Outcome State Fault Refusal := .next (s.emit .systemReset)

end Sys2Proof.Machine
end

