-- ==== Sys2Proof/Machine/SysEx.lean ====
section
/-! DEFINITION. System Exclusive start 0xF0 and end 0xF7 (41_sysex_framing.md, R80 to R84). -/

namespace Sys2Proof.Machine

/-- `SOX` (R80, R81): whatever was pending is discarded, running status is cleared, an empty SysEx begins. -/
def execSox (s : State) : Host.Outcome State Fault Refusal := .next s.openSysEx.silent

/-- `EOX`: with a SysEx active it is emitted whole and closed (R82); otherwise the byte is an unexpected
End-of-Exclusive, and an incomplete Channel or System Common message is aborted silently (R83). -/
def execEox (s : State) : Host.Outcome State Fault Refusal :=
  match s.pend with
  | .sysEx p => .next (s.clear.emit (.sysEx p))
  | .empty => .next (s.clear.report 0xF7 .unexpectedEox)
  | .chan _ _ => .next (s.clear.report 0xF7 .unexpectedEox)
  | .sysCom _ _ => .next (s.clear.report 0xF7 .unexpectedEox)

end Sys2Proof.Machine
end

