-- ==== Sys2Proof/Machine/SystemCommon.lean ====
section
/-! DEFINITION. The other System Common status bytes 0xF1..0xF6 (42_system_common.md, R90 to R96). Each aborts whatever
is pending and clears running status. -/

namespace Sys2Proof.Machine

/-- `system_common(b)` with `need_of(b) > 0` (R96). -/
def awaitSysCom (k : SysComKind) (s : State) : State := (s.openSysCom k).silent

/-- `system_common(b)` with `need_of(b) = 0`: the zero-length message completes at once (R96). -/
def completeSysCom (m : Message) (s : State) : State := s.clear.emit m

/-- `system_common(b)` for a value to which the source assigns no message (R55, R134). -/
def undefinedSysCom (b : Byte) (s : State) : State := s.clear.report b .undefinedStatus

/-- `UNDEF_F1` (R90). -/
def execUndefF1 (s : State) : Host.Outcome State Fault Refusal := .next (undefinedSysCom 0xF1 s)

/-- `ST_SONG_POSITION` (R91). -/
def execStSongPosition (s : State) : Host.Outcome State Fault Refusal := .next (awaitSysCom .songPosition s)

/-- `ST_SONG_SELECT` (R92). -/
def execStSongSelect (s : State) : Host.Outcome State Fault Refusal := .next (awaitSysCom .songSelect s)

/-- `UNDEF_F4` (R93). -/
def execUndefF4 (s : State) : Host.Outcome State Fault Refusal := .next (undefinedSysCom 0xF4 s)

/-- `UNDEF_F5` (R94). -/
def execUndefF5 (s : State) : Host.Outcome State Fault Refusal := .next (undefinedSysCom 0xF5 s)

/-- `TUNE_REQUEST` (R95). -/
def execTuneRequest (s : State) : Host.Outcome State Fault Refusal := .next (completeSysCom .tuneRequest s)

end Sys2Proof.Machine
end

