-- ==== Sys2Proof/Machine/Dispatch.lean ====
section
/-! DEFINITION. The dispatch of R48: one arm per row of R54. -/

namespace Sys2Proof.Machine

def exec (i : Instr) (s : State) : Host.Outcome State Fault Refusal :=
  match i with
  | .data v => Sys2Proof.Machine.execData v s
  | .stNoteOff c => Sys2Proof.Machine.execStNoteOff c s
  | .stNoteOn c => Sys2Proof.Machine.execStNoteOn c s
  | .stPolyPressure c => Sys2Proof.Machine.execStPolyPressure c s
  | .stControlChange c => Sys2Proof.Machine.execStControlChange c s
  | .stProgramChange c => Sys2Proof.Machine.execStProgramChange c s
  | .stChannelPressure c => Sys2Proof.Machine.execStChannelPressure c s
  | .stPitchBend c => Sys2Proof.Machine.execStPitchBend c s
  | .sox => Sys2Proof.Machine.execSox s
  | .undefF1 => Sys2Proof.Machine.execUndefF1 s
  | .stSongPosition => Sys2Proof.Machine.execStSongPosition s
  | .stSongSelect => Sys2Proof.Machine.execStSongSelect s
  | .undefF4 => Sys2Proof.Machine.execUndefF4 s
  | .undefF5 => Sys2Proof.Machine.execUndefF5 s
  | .tuneRequest => Sys2Proof.Machine.execTuneRequest s
  | .eox => Sys2Proof.Machine.execEox s
  | .timingClock => Sys2Proof.Machine.execTimingClock s
  | .undefF9 => Sys2Proof.Machine.execUndefF9 s
  | .start => Sys2Proof.Machine.execStart s
  | .continue_ => Sys2Proof.Machine.execContinue s
  | .stop => Sys2Proof.Machine.execStop s
  | .undefFD => Sys2Proof.Machine.execUndefFD s
  | .activeSensing => Sys2Proof.Machine.execActiveSensing s
  | .systemReset => Sys2Proof.Machine.execSystemReset s

end Sys2Proof.Machine
end

