-- ==== Sys2Proof/Machine/Step.lean ====
section
/-! DEFINITION. One step boundary (R26, R37): the environment's sample is taken; reset wins (R159), then a presented
byte is decoded and executed, else nothing happens. -/

namespace Sys2Proof.Machine

/-- One step boundary (R26). -/
def step (s : State) : Host.Outcome State Fault Refusal :=
  if s.portNow.reset then .next s.takePort.applyReset
  else if s.portNow.inValid then exec (decode s.portNow.inByte) s.takePort
  else .next s.takePort.idle

/-- The instruction of an opcode-table word, presented by the Byte Source at the very next step boundary, before the
samples it still holds (log entry 1). An instruction is one byte whatever `nbits` says (R45). -/
def State.withFetchWord (s : State) (_nbits w : Nat) : State := s.present (byteOfTableWord w)

end Sys2Proof.Machine
end

