-- ==== Sys2Proof/Machine/Reference.lean ====
section
/-! DEFINITION. The step written a second time, on raw bytes, line by line from the spec's pseudocode (R8, R48, R49,
R70, R80, R82, R83, R96, R100, R110 to R116), over the shapes of R11 and R12 with `st` a byte and `need` a number. It is
what the typed machine is compared with; `exec` does not use it. -/

namespace Sys2Proof.Machine

/-- `PEND` with its fields as R12 writes them. -/
inductive RefPend where
  | none
  | chan (st : Byte) (need : Nat) (data : List Data7)
  | sysCom (st : Byte) (need : Nat) (data : List Data7)
  | sysEx (payload : List Data7)
deriving DecidableEq, Repr

/-- `RS` and `PEND` (R10). -/
structure RefState where
  rs : Option Byte
  pend : RefPend
deriving DecidableEq, Repr

/-- `need_of(st)`, the table of R49 on the status bytes with a fixed count; 0xF0 has none (R49). -/
def refNeedOf (st : Byte) : Nat :=
  if st.extractLsb' 4 4 = 0xC ∨ st.extractLsb' 4 4 = 0xD then 1
  else if st.toNat < 0xF0 then 2
  else if st = 0xF2 then 2
  else if st = 0xF3 then 1
  else 0

/-- `decode(st, data)`, the table of R115; `none` where no row applies. -/
def refDecode (st : Byte) (data : List Data7) : Option Message :=
  let c : Nibble := st.extractLsb' 0 4
  match (st.extractLsb' 4 4).toNat, data with
  | 0x8, [n, v] => some (.noteOff c n v)
  | 0x9, [n, v] => if v ≠ 0 then some (.noteOn c n v) else some (.noteOff c n 0)
  | 0xA, [n, p] => some (.polyPressure c n p)
  | 0xB, [k, x] => some (.controlChange c k x)
  | 0xC, [p] => some (.programChange c p)
  | 0xD, [p] => some (.channelPressure c p)
  | 0xE, [l, m] => some (.pitchBend c l m)
  | 0xF, [l, m] => if st = 0xF2 then some (.songPosition l m) else none
  | 0xF, [x] => if st = 0xF3 then some (.songSelect x) else none
  | _, _ => none

/-- `rt_message(b)` (R71 to R78). -/
def refRtMessage (b : Byte) : Message :=
  if b = 0xF8 then .timingClock
  else if b = 0xFA then .start
  else if b = 0xFB then .continue_
  else if b = 0xFC then .stop
  else if b = 0xFE then .activeSensing
  else if b = 0xFF then .systemReset
  else .malformed b .undefinedStatus

/-- `fixed_append` for either shape; `keep` rebuilds the shape it was called on (R113). -/
def refFixedAppend (keep : List Data7 → RefPend) (st : Byte) (need : Nat) (data : List Data7) (v : Data7)
    (r : RefState) : RefState × Option Message :=
  if (data ++ [v]).length = need then ({ r with pend := .none }, refDecode st (data ++ [v]))
  else ({ r with pend := keep (data ++ [v]) }, none)

/-- `sysex_append` (R111, R112); `cap` is `SYSEX_CAP`, `none` for `INF`. -/
def refSysexAppend (cap : Option Nat) (p : List Data7) (b : Byte) (r : RefState) : RefState × Option Message :=
  if some p.length = cap then ({ r with pend := .none }, some (.malformed b .sysexOverflow))
  else ({ r with pend := .sysEx (p ++ [b.extractLsb' 0 7]) }, none)

/-- `data_byte(b)` (R110). -/
def refDataByte (cap : Option Nat) (b : Byte) (r : RefState) : RefState × Option Message :=
  match r.pend with
  | .sysEx p => refSysexAppend cap p b r
  | .chan st need data => refFixedAppend (.chan st need) st need data (b.extractLsb' 0 7) r
  | .sysCom st need data => refFixedAppend (.sysCom st need) st need data (b.extractLsb' 0 7) r
  | .none =>
    match r.rs with
    | some s => refFixedAppend (.chan s (refNeedOf s)) s (refNeedOf s) [] (b.extractLsb' 0 7) r
    | none => (r, some (.malformed b .orphanData))

/-- `sysex_end()` (R82, R83). -/
def refSysexEnd (r : RefState) : RefState × Option Message :=
  match r.pend with
  | .sysEx p => ({ rs := none, pend := .none }, some (.sysEx p))
  | _ => ({ rs := none, pend := .none }, some (.malformed 0xF7 .unexpectedEox))

/-- `system_common(b)` (R96). -/
def refSystemCommon (b : Byte) : RefState × Option Message :=
  if 0 < refNeedOf b then ({ rs := none, pend := .sysCom b (refNeedOf b) [] }, none)
  else ({ rs := none, pend := .none }, some (if b = 0xF6 then .tuneRequest else .malformed b .undefinedStatus))

/-- `feed(b)`: the six branches of R48. -/
def refFeed (cap : Option Nat) (b : Byte) (r : RefState) : RefState × Option Message :=
  if b.extractLsb' 3 5 = 0b11111 then (r, some (refRtMessage b))
  else if b = 0xF0 then ({ rs := none, pend := .sysEx [] }, none)
  else if b = 0xF7 then refSysexEnd r
  else if b.extractLsb' 4 4 = 0xF then refSystemCommon b
  else if b.extractLsb' 7 1 = 1 then ({ rs := some b, pend := .chan b (refNeedOf b) [] }, none)
  else refDataByte cap b r

/-- The outputs of a run of the byte-level step, one entry per byte (R40). -/
def refTrace (cap : Option Nat) : List Byte → RefState → List (Option Message)
  | [], _ => []
  | b :: w, r => (refFeed cap b r).2 :: refTrace cap w (refFeed cap b r).1

/-- A shape of the machine as R12 writes it. -/
def Pend.toRef : Pend → RefPend
  | .empty => .none
  | .chan st data => .chan st.toByte st.kind.need data
  | .sysCom k data => .sysCom k.toByte k.need data
  | .sysEx p => .sysEx p

/-- The registers of the machine as R11 and R12 write them. -/
def State.toRef (s : State) : RefState := { rs := s.rs.map ChanStatus.toByte, pend := s.pend.toRef }

end Sys2Proof.Machine
end

