-- ==== Sys2Proof/Machine/Registers.lean ====
section
/-! DEFINITION. The register-level encoding of the state that R27 offers as sufficient. A don't-care register holds any
value (U5), taken from an argument that nothing constrains (log entry 6). -/

namespace Sys2Proof.Machine

/-- The registers of R27. -/
structure Regs where
  rsValid : BitVec 1
  rs : Byte
  pk : BitVec 2
  ps : Byte
  haveData : BitVec 1
  d1 : Data7
  sxLen : Nat
  sxBuf : List Data7
deriving DecidableEq, Repr

/-- The type of a type nibble, for the nibbles of Channel status bytes (R51). -/
def ChanKind.ofNibble (n : Nibble) : Option ChanKind :=
  match n with
  | 0x8 => some .noteOff
  | 0x9 => some .noteOn
  | 0xA => some .polyPressure
  | 0xB => some .controlChange
  | 0xC => some .programChange
  | 0xD => some .channelPressure
  | 0xE => some .pitchBend
  | _ => none

/-- The Channel status byte taken apart, for bytes 0x80..0xEF (R50). -/
def ChanStatus.ofByte (b : Byte) : Option ChanStatus :=
  (ChanKind.ofNibble (b.extractLsb' 4 4)).map fun k => { kind := k, chan := b.extractLsb' 0 4 }

/-- 0xF2 and 0xF3 (R12). -/
def SysComKind.ofByte (b : Byte) : Option SysComKind :=
  match b with
  | 0xF2 => some .songPosition
  | 0xF3 => some .songSelect
  | _ => none

/-- `rs_valid` and `rs` for a value of `RS` (R27). -/
def Regs.withRs (r : Regs) : Option ChanStatus → Regs
  | none => { r with rsValid := 0 }
  | some st => { r with rsValid := 1, rs := st.toByte }

/-- `have` and `d1` for the data of a `CHAN` or `SYSCOM` shape, which holds no or one byte (R16, R27). -/
def Regs.withData (r : Regs) : List Data7 → Regs
  | [] => { r with haveData := 0 }
  | d :: _ => { r with haveData := 1, d1 := d }

/-- `pk` and the registers its shape governs for a value of `PEND` (R27). -/
def Regs.withPend (r : Regs) : Pend → Regs
  | .empty => { r with pk := 0 }
  | .chan st data => Regs.withData { r with pk := 1, ps := st.toByte } data
  | .sysCom k data => Regs.withData { r with pk := 2, ps := k.toByte } data
  | .sysEx p => { r with pk := 3, sxLen := p.length, sxBuf := p }

/-- The registers of a state; `any` supplies the don't-cares (R27). -/
def State.toRegs (any : Regs) (s : State) : Regs := (any.withRs s.rs).withPend s.pend

/-- The data the registers hold (R27). -/
def Regs.data (r : Regs) : List Data7 := if r.haveData = 1 then [r.d1] else []

/-- The value of `RS` the registers hold (R27). -/
def Regs.readRs (r : Regs) : Option ChanStatus := if r.rsValid = 1 then ChanStatus.ofByte r.rs else none

/-- The value of `PEND` the registers hold; no answer where `ps` is no status byte of its shape (R27). -/
def Regs.readPend (r : Regs) : Option Pend :=
  match r.pk with
  | 0 => some .empty
  | 1 => (ChanStatus.ofByte r.ps).map fun st => .chan st r.data
  | 2 => (SysComKind.ofByte r.ps).map fun k => .sysCom k r.data
  | _ => some (.sysEx (r.sxBuf.take r.sxLen))

end Sys2Proof.Machine
end

