-- ==== Sys2Proof/Machine/Record.lean ====
section
/-! DEFINITION. The numeric codes: the reason codes of R130, the output record of R62 on the port `out_msg` and the
output ports of R26. A don't-care field holds any value (U6): it is taken from an argument that nothing constrains, so
every statement about a record holds for all of them (log entry 6). -/

namespace Sys2Proof.Machine

/-- The reason code (R130). -/
def Reason.code : Reason → BitVec 2
  | .orphanData => 0
  | .unexpectedEox => 1
  | .undefinedStatus => 2
  | .sysexOverflow => 3

/-- The reason with a code (R130). -/
def Reason.ofCode (c : BitVec 2) : Reason :=
  match c with
  | 0 => .orphanData
  | 1 => .unexpectedEox
  | 2 => .undefinedStatus
  | _ => .sysexOverflow

/-- The record on `out_msg` (R62). -/
structure OutRecord where
  kind : BitVec 5
  chan : Nibble
  f1 : Data7
  f2 : Data7
  bad : Byte
  reason : BitVec 2
  payload : List Data7
deriving DecidableEq, Repr

/-- The variant tag, the row number of R24 (R62). -/
def Message.tag : Message → BitVec 5
  | .noteOff _ _ _ => 1
  | .noteOn _ _ _ => 2
  | .polyPressure _ _ _ => 3
  | .controlChange _ _ _ => 4
  | .programChange _ _ => 5
  | .channelPressure _ _ => 6
  | .pitchBend _ _ _ => 7
  | .sysEx _ => 8
  | .songPosition _ _ => 9
  | .songSelect _ => 10
  | .tuneRequest => 11
  | .timingClock => 12
  | .start => 13
  | .continue_ => 14
  | .stop => 15
  | .activeSensing => 16
  | .systemReset => 17
  | .malformed _ _ => 18

/-- The record of a message (R62); `any` supplies the fields its kind does not use. -/
def Message.toRecord (any : OutRecord) (m : Message) : OutRecord :=
  let r : OutRecord := { any with kind := m.tag }
  match m with
  | .noteOff c n v => { r with chan := c, f1 := n, f2 := v }
  | .noteOn c n v => { r with chan := c, f1 := n, f2 := v }
  | .polyPressure c n p => { r with chan := c, f1 := n, f2 := p }
  | .controlChange c k x => { r with chan := c, f1 := k, f2 := x }
  | .programChange c p => { r with chan := c, f1 := p }
  | .channelPressure c p => { r with chan := c, f1 := p }
  | .pitchBend c l h => { r with chan := c, f1 := l, f2 := h }
  | .sysEx p => { r with payload := p }
  | .songPosition l h => { r with f1 := l, f2 := h }
  | .songSelect n => { r with f1 := n }
  | .malformed b x => { r with bad := b, reason := x.code }
  | .tuneRequest => r
  | .timingClock => r
  | .start => r
  | .continue_ => r
  | .stop => r
  | .activeSensing => r
  | .systemReset => r

/-- The message a record stands for; tags 0 and 19..31 never appear (R62). -/
def OutRecord.toMessage (r : OutRecord) : Option Message :=
  match r.kind with
  | 1 => some (.noteOff r.chan r.f1 r.f2)
  | 2 => some (.noteOn r.chan r.f1 r.f2)
  | 3 => some (.polyPressure r.chan r.f1 r.f2)
  | 4 => some (.controlChange r.chan r.f1 r.f2)
  | 5 => some (.programChange r.chan r.f1)
  | 6 => some (.channelPressure r.chan r.f1)
  | 7 => some (.pitchBend r.chan r.f1 r.f2)
  | 8 => some (.sysEx r.payload)
  | 9 => some (.songPosition r.f1 r.f2)
  | 10 => some (.songSelect r.f1)
  | 11 => some .tuneRequest
  | 12 => some .timingClock
  | 13 => some .start
  | 14 => some .continue_
  | 15 => some .stop
  | 16 => some .activeSensing
  | 17 => some .systemReset
  | 18 => some (.malformed r.bad (Reason.ofCode r.reason))
  | _ => none

/-- The output ports (R26). -/
structure OutPorts where
  outValid : Bool
  outMsg : OutRecord
deriving DecidableEq, Repr

/-- What the output ports carry after a step boundary: `out_valid` is 1 exactly when the step emitted, and `out_msg` is
any value otherwise (R26, U6). -/
def State.outPorts (any : OutRecord) (s : State) : OutPorts :=
  match s.out with
  | some m => { outValid := true, outMsg := m.toRecord any }
  | none => { outValid := false, outMsg := any }

end Sys2Proof.Machine
end

