-- ==== Sys2Proof/Machine/Run.lean ====
section
/-! DEFINITION. Runs over byte streams, in the terms of R7, R26 and R152: `feed` is the spec's
`State x Byte -> State x Option Message` (the message is the `out` of the state it gives), and a run over a finite byte
list is its result. -/

namespace Sys2Proof.Machine

/-- The step function of R26: one accepted byte. `exec` always answers a next state (R143). -/
def feed (b : Byte) (s : State) : State :=
  match exec (decode b) s with
  | .next t => t
  | .fault _ => s
  | .refused _ => s

/-- The state after a byte list, earliest byte first (R152). -/
def feedAll (w : List Byte) (s : State) : State := w.foldl (fun t b => feed b t) s

/-- The output of each step of a run, `none` where a step emits nothing: entry `k` belongs to byte `k` (R40). -/
def trace : List Byte → State → List (Option Message)
  | [], _ => []
  | b :: w, s => (feed b s).out :: trace w (feed b s)

/-- The output of a stream: the messages in emission order, silent steps contributing nothing (R7). -/
def emitted (w : List Byte) (s : State) : List Message := (trace w s).filterMap id

/-- Chunked delivery: each chunk is fed byte by byte into the same decoder (R156). -/
def feedChunks (ws : List (List Byte)) (s : State) : State := ws.foldl (fun t w => feedAll w t) s

/-- The two registers, the whole architectural state (R10). -/
def State.registers (s : State) : Option ChanStatus × Pend := (s.rs, s.pend)

/-- The port samples that present a byte list with no idle boundary and no reset (R26). -/
def samplesOf (w : List Byte) : List PortIn := w.map fun b => { reset := false, inValid := true, inByte := b }

/-- Several decoders, each with its own state: byte `b` goes to number `k` (R29, R142). -/
def feedAt (k : Nat) (b : Byte) (ds : List State) : List State := ds.modify k (feed b)

end Sys2Proof.Machine
end

