-- ==== Sys2Proof/Safety.lean ====
section
/-! DEFINITION. What statements about the machine speak of: the invariant of the two registers (R14 to R16, and the
bound of R12 and R31), and what an emitted message looks like (R25, R130). R13 and R17 hold by the types of `State`. -/

namespace Sys2Proof.Machine

/-- R14: a pending Channel message belongs to the running status. -/
def State.chanMatchesRs (s : State) : Bool :=
  match s.pend with
  | .chan st _ => s.rs == some st
  | .empty => true
  | .sysCom _ _ => true
  | .sysEx _ => true

/-- R15: while a System message is pending there is no running status. -/
def State.systemHasNoRs (s : State) : Bool :=
  match s.pend with
  | .sysCom _ _ => s.rs == none
  | .sysEx _ => s.rs == none
  | .empty => true
  | .chan _ _ => true

/-- R16: a pending fixed-length message still awaits data. -/
def State.pendingIncomplete (s : State) : Bool :=
  match s.pend with
  | .chan st data => decide (data.length < st.kind.need)
  | .sysCom k data => decide (data.length < k.need)
  | .empty => true
  | .sysEx _ => true

/-- R12, R31: a payload is never longer than `SYSEX_CAP`. -/
def State.payloadWithinCap (s : State) : Bool :=
  match s.pend, s.cfg.sysexCap with
  | .sysEx p, some cap => decide (p.length ≤ cap)
  | _, _ => true

/-- The states a decoder can be in (R14, R15, R16, R12). -/
def State.inv (s : State) : Bool :=
  s.chanMatchesRs && s.systemHasNoRs && s.pendingIncomplete && s.payloadWithinCap

/-- What R25 and R130 say of every emitted message: a Note-On has a velocity other than 0, and a Malformed carries a
byte its reason allows. -/
def Message.legal : Message → Bool
  | .noteOn _ _ v => v != 0
  | .malformed b .orphanData => isDataByte b
  | .malformed b .sysexOverflow => isDataByte b
  | .malformed b .unexpectedEox => b == 0xF7
  | .malformed b .undefinedStatus => isUndefinedStatus b
  | _ => true

/-- The channel a message carries (R24 variants 1 to 7). -/
def Message.channel : Message → Option Nibble
  | .noteOff c _ _ => some c
  | .noteOn c _ _ => some c
  | .polyPressure c _ _ => some c
  | .controlChange c _ _ => some c
  | .programChange c _ => some c
  | .channelPressure c _ => some c
  | .pitchBend c _ _ => some c
  | _ => none

/-- The Channel status under which a data byte is decoded: the pending one, else running status (R113, R114). -/
def State.activeStatus (s : State) : Option ChanStatus :=
  match s.pend with
  | .chan st _ => some st
  | .empty => s.rs
  | .sysCom _ _ => none
  | .sysEx _ => none

/-- The payload a SysEx in progress holds (R12). -/
def State.payload (s : State) : Option (List Data7) :=
  match s.pend with
  | .sysEx p => some p
  | .empty => none
  | .chan _ _ => none
  | .sysCom _ _ => none

/-- The values of the data bytes of a stream, in order (R34). -/
def dataOf (w : List Byte) : List Data7 := (w.filter isDataByte).map fun b => b.extractLsb' 0 7

/-- A stream of data bytes and Real-Time bytes only (R84). -/
def dataOrRealTime (w : List Byte) : Bool := w.all fun b => isDataByte b || isRealTime b

/-- A list of `n` elements fits into the buffer of this build (R31). -/
def bufferFits (cfg : Config) (n : Nat) : Bool :=
  match cfg.sysexCap with
  | none => true
  | some cap => decide (n ≤ cap)

end Sys2Proof.Machine
end

