-- ==== Sys2Proof/Certificates/Slice0/Obligations.lean ====
section
/-! DEFINITION. The statements for the provers, from the numbered rules of spec/. A statement written with `exec … = .next …`
says that the instruction completes, for every state it quantifies over; the record on the right says every field, so it is the
frame too. `feed b s` is the state after one accepted byte, `trace w s` the output of each step of a run, `emitted w s` its messages. -/

open Sys2Proof Sys2Proof.Machine

/-! ### Reset, ports, step -/

/-- R23: after reset and at power-on both registers are empty, there is no SysEx buffer, and a data byte is an orphan.
What the Sink holds at reset is left unsaid. -/
def Obligations.ResetStateIsFresh : Prop :=
  (∀ cfg, (State.resetWith cfg).rs = none ∧ (State.resetWith cfg).pend = .empty ∧ (State.resetWith cfg).payload = none) ∧
  State.reset = State.resetWith Config.default ∧
  (∀ s : State, s.applyReset.rs = none ∧ s.applyReset.pend = .empty) ∧
  (∀ v, exec (.data v) State.reset =
    .next { State.reset with out := some (.malformed (dataByte v) .orphanData),
                             sink := State.reset.sink ++ [.malformed (dataByte v) .orphanData] })

/-- The reset state of every build meets the invariant that every step keeps (10_state.md section 2). -/
def Obligations.ResetMeetsDecoderInvariant : Prop := ∀ cfg, (State.resetWith cfg).inv = true

/-- A step at which a byte is presented runs the decoded instruction on the state that remains; so does a step after the
opcode-table word was placed. Reading the table word and fetching it give the same instruction. The last clause is the model's
choice and no rule (log entry 14): when the environment has no sample left, the boundary is an idle one. -/
def Obligations.StepRunsDecodedByte : Prop :=
  (∀ (s : State) (b : Byte) (rest : List PortIn),
    step { s with input := { reset := false, inValid := true, inByte := b } :: rest } = exec (decode b) { s with input := rest }) ∧
  (∀ (b : Byte) (more : List Byte), decodeBytes (b :: more) = .ok (decode b, more) ∧ (decode b).wellFormed = true) ∧
  (∀ (s : State) (b : Byte), step (s.withFetchWord 8 b.toNat) = exec (decode b) s ∧ decodeTableWord 8 b.toNat = some (decode b)) ∧
  (∀ s : State, step { s with input := [] } = .next { s with input := [], out := none })

/-- R26: the ports. Reset wins, an absent byte does nothing, a presented byte is one step, any byte value is accepted, and the
output ports show the step's message or nothing (the ports are the spec's own, D1, D2, D17). -/
def Obligations.PortBoundary : Prop :=
  (∀ (s : State) (v : Bool) (b : Byte) (rest : List PortIn),
    ∃ t, step { s with input := { reset := true, inValid := v, inByte := b } :: rest } = .next t ∧
      t.registers = State.reset.registers ∧ t.out = none ∧ t.input = rest) ∧
  (∀ (s : State) (b : Byte) (rest : List PortIn),
    step { s with input := { reset := false, inValid := false, inByte := b } :: rest } =
      .next { s with out := none, input := rest }) ∧
  (∀ (s : State) (b : Byte) (rest : List PortIn),
    step { s with input := { reset := false, inValid := true, inByte := b } :: rest } = .next (feed b { s with input := rest })) ∧
  (∀ (any : OutRecord) (s : State) (m : Message),
    State.outPorts any { s with out := some m } = { outValid := true, outMsg := m.toRecord any }) ∧
  (∀ (any : OutRecord) (s : State), (State.outPorts any { s with out := none }).outValid = false)

/-- R150, R151 and R159: reset and power-on leave the same registers; reset discards whatever is pending, emits nothing and wins over
a byte, which is not consumed, so that the first byte of the new session is the first one presented with `reset = 0`; no byte does
what reset does (empty both registers in silence), in any state; and 0xFF leaves the registers as they were (the spec's decision D14). -/
def Obligations.ResetIsThePortsAlone : Prop :=
  (∀ s : State, s.applyReset.registers = State.reset.registers ∧ s.applyReset.out = none) ∧
  (∀ (s : State) (p : Pend) (v : Bool) (b : Byte) (rest : List PortIn),
    ∃ t, step { s with pend := p, input := { reset := true, inValid := v, inByte := b } :: rest } = .next t ∧
      t.registers = State.reset.registers ∧ t.out = none ∧ t.input = rest) ∧
  (∀ (s : State) (b b' : Byte) (rest : List PortIn),
    ∃ t, core.run 2 { s with input := { reset := true, inValid := true, inByte := b } ::
        { reset := false, inValid := true, inByte := b' } :: rest } = .next t ∧
      t.registers = (feed b' (State.resetWith s.cfg)).registers ∧ t.out = (feed b' (State.resetWith s.cfg)).out ∧
      t.input = rest) ∧
  (∀ (b : Byte) (s : State), ¬ ((feed b s).registers = State.reset.registers ∧ (feed b s).out = none)) ∧
  (∀ s : State, (feed 0xFF s).registers = s.registers)

/-! ### Encoding -/

/-- One word of every family, written out bit by bit from R54, and the instruction it stands for. -/
def Obligations.WrittenOutBytesDecode : Prop :=
  decode 0b00111100 = .data 0x3C ∧ decode 0b10000101 = .stNoteOff 5 ∧ decode 0b10010000 = .stNoteOn 0 ∧
  decode 0b11001111 = .stProgramChange 15 ∧ decode 0b11100010 = .stPitchBend 2 ∧ decode 0b11110000 = .sox ∧
  decode 0b11110111 = .eox ∧ decode 0b11110010 = .stSongPosition ∧ decode 0b11110110 = .tuneRequest ∧
  decode 0b11110100 = .undefF4 ∧ decode 0b11111000 = .timingClock ∧ decode 0b11111101 = .undefFD ∧
  decode 0b11111111 = .systemReset

/-- R45: every instruction is one byte, every byte is accepted, and the two overlays give the operands. -/
def Obligations.EveryByteIsOneInstruction : Prop :=
  (∀ i, (encodeBytes i).length = 1) ∧
  (∀ (b : Byte) (rest : List Byte), decodeBytes (b :: rest) = .ok (decode b, rest)) ∧
  (∀ b, encode (decode b) = b) ∧
  (∀ v : Data7, decode (0#1 ++ v) = .data v) ∧
  (∀ c : Nibble, decode (0x8#4 ++ c) = .stNoteOff c ∧ decode (0x9#4 ++ c) = .stNoteOn c ∧ decode (0xA#4 ++ c) = .stPolyPressure c ∧
    decode (0xB#4 ++ c) = .stControlChange c ∧ decode (0xC#4 ++ c) = .stProgramChange c ∧
    decode (0xD#4 ++ c) = .stChannelPressure c ∧ decode (0xE#4 ++ c) = .stPitchBend c)

/-- Decoding the byte list of any list of instructions gives it back, with every operand at every value; one instruction is taken
off the front of a longer list; and every byte list is the encoding of what it decodes to. -/
def Obligations.DecodeInvertsEncodeOnStreams : Prop :=
  (∀ is : List Instr, decodeStream (encodeStream is) = is) ∧
  (∀ (i : Instr) (rest : List Byte), decodeBytes (encodeBytes i ++ rest) = .ok (i, rest)) ∧
  (∀ w : List Byte, encodeStream (decodeStream w) = w)

/-- R54: 24 rows; every byte selects exactly one row by its match and mask, the row of the instruction it decodes to; the rows have
128, 7 × 16 and 16 × 1 values. -/
def Obligations.OpcodeTableRowsSelect : Prop :=
  opcodeRows.length = 24 ∧
  (∀ b : Byte, (opcodeRows.filter fun r => r.selects b).map OpcodeRow.mnemonic = [(decode b).mnemonic]) ∧
  (opcodeRows.map fun r => (List.range 256).countP fun n => r.selects (BitVec.ofNat 8 n)) =
    128 :: (List.replicate 7 16 ++ List.replicate 16 1)

/-- R46 and R47: the classes by value, their ranges; they are disjoint and cover all values. -/
def Obligations.ByteClassesPartition : Prop :=
  ∀ b : Byte,
    (isDataByte b = true ↔ b.toNat ≤ 0x7F) ∧
    (isChannelStatus b = true ↔ 0x80 ≤ b.toNat ∧ b.toNat ≤ 0xEF) ∧
    (isSystemCommon b = true ↔ 0xF0 ≤ b.toNat ∧ b.toNat ≤ 0xF7) ∧
    (isRealTime b = true ↔ 0xF8 ≤ b.toNat) ∧
    [isDataByte b, isChannelStatus b, isSystemCommon b, isRealTime b].count true = 1

/-- R49: `need_of` as the table gives it, and as the machine computes it from the type it holds; 0xF0 has no fixed count: its data
bytes accumulate, however many. -/
def Obligations.NeedOfFollowsTable : Prop :=
  (∀ b : Byte, isChannelStatus b = true →
    refNeedOf b = (if b.extractLsb' 4 4 = 0xC ∨ b.extractLsb' 4 4 = 0xD then 1 else 2)) ∧
  refNeedOf 0xF2 = 2 ∧ refNeedOf 0xF3 = 1 ∧ refNeedOf 0xF6 = 0 ∧ refNeedOf 0xF1 = 0 ∧ refNeedOf 0xF4 = 0 ∧ refNeedOf 0xF5 = 0 ∧
  refNeedOf 0xF7 = 0 ∧ (∀ b : Byte, isRealTime b = true → refNeedOf b = 0) ∧
  (∀ st : ChanStatus, st.kind.need = refNeedOf st.toByte ∧ st.kind.need ≠ 0) ∧
  (∀ k : SysComKind, k.need = refNeedOf k.toByte) ∧
  (∀ (vs : List Data7) (s : State), s.cfg.sysexCap = none →
    (feedAll (0xF0 :: vs.map dataByte) s).registers = (none, .sysEx vs))

/-! ### Channel status bytes and the messages they open -/

/-- R100: every byte 0x80..0xEF, in every state, sets running status to itself, opens a message awaiting `need_of(b)` data bytes
and emits nothing. -/
def Obligations.ChannelStatusOpensMessage : Prop :=
  ∀ (b : Byte) (s : State), isChannelStatus b = true →
    ∃ st : ChanStatus, st.toByte = b ∧ st.kind.need = refNeedOf b ∧ st.kind.need ≠ 0 ∧
      exec (decode b) s = .next { s with rs := some st, pend := .chan st [], out := none }

/-- R108: the corner cases of a Channel status byte: it never depends on what stood before, a repeated one starts again, two in a
row are the second alone, another channel nibble takes over the data-only groups, a SysEx ends in silence (the spec derives them from R100). -/
def Obligations.ChannelStatusCornerCases : Prop :=
  (∀ (b : Byte) (s : State), isChannelStatus b = true → feed b s = feed b { s with rs := none, pend := .empty }) ∧
  (∀ s, trace [0x90, 0x3C, 0x90, 0x3C, 0x40] s = [none, none, none, none, some (.noteOn 0 0x3C 0x40)]) ∧
  (∀ (st st' : ChanStatus) (s : State), feed st'.toByte (feed st.toByte s) = feed st'.toByte s) ∧
  (∀ (k : ChanKind) (c c' : Nibble) (n v : Data7) (s : State), k.need = 2 →
    trace [(⟨k, c⟩ : ChanStatus).toByte, (⟨k, c'⟩ : ChanStatus).toByte, dataByte n, dataByte v, dataByte v, dataByte n] s =
      [none, none, none, some (decodeChan ⟨k, c'⟩ [n, v]), none, some (decodeChan ⟨k, c'⟩ [v, n])]) ∧
  (∀ (k : ChanKind) (c c' : Nibble) (n v : Data7) (s : State), k.need = 1 →
    trace [(⟨k, c⟩ : ChanStatus).toByte, (⟨k, c'⟩ : ChanStatus).toByte, dataByte n, dataByte v] s =
      [none, none, some (decodeChan ⟨k, c'⟩ [n]), some (decodeChan ⟨k, c'⟩ [v])]) ∧
  (∀ s, trace [0x90, 0x3C, 0x80, 0x3C, 0x40] s = [none, none, none, none, some (.noteOff 0 0x3C 0x40)]) ∧
  (∀ (b : Byte) (p : List Data7) (s : State), isChannelStatus b = true →
    (feed b { s with pend := .sysEx p }).payload = none ∧ (feed b { s with pend := .sysEx p }).out = none) ∧
  (∀ (b r : Byte) (s : State), isChannelStatus b = true → isRealTime r = true →
    (feed r (feed b s)).registers = (feed b s).registers)

/-- R101 and R117: `ST_NOTE_OFF`, in every state, and the message that two data bytes complete, whatever the velocity. -/
def Obligations.NoteOffStatusAndMessage : Prop :=
  (∀ (c : Nibble) (s : State), exec (.stNoteOff c) s = .next { s with rs := some ⟨.noteOff, c⟩, pend := .chan ⟨.noteOff, c⟩ [], out := none }) ∧
  (∀ c : Nibble, (⟨.noteOff, c⟩ : ChanStatus).toByte = 0x80 ||| c.setWidth 8 ∧ encode (.stNoteOff c) = 0x80 ||| c.setWidth 8) ∧
  ChanKind.noteOff.need = 2 ∧
  (∀ c n v s, trace [encode (.stNoteOff c), dataByte n, dataByte v] s = [none, none, some (.noteOff c n v)] ∧
    (feedAll [encode (.stNoteOff c), dataByte n, dataByte v] s).registers = (some ⟨.noteOff, c⟩, .empty))

/-- R102 and R118: `ST_NOTE_ON`, in every state; velocity 0 turns the output into Note-Off and changes nothing else, so the next
data-only group is again decoded as a Note-On group. -/
def Obligations.NoteOnStatusAndNormalisation : Prop :=
  (∀ (c : Nibble) (s : State), exec (.stNoteOn c) s = .next { s with rs := some ⟨.noteOn, c⟩, pend := .chan ⟨.noteOn, c⟩ [], out := none }) ∧
  (∀ c : Nibble, (⟨.noteOn, c⟩ : ChanStatus).toByte = 0x90 ||| c.setWidth 8 ∧ encode (.stNoteOn c) = 0x90 ||| c.setWidth 8) ∧
  ChanKind.noteOn.need = 2 ∧
  (∀ c n v s, trace [encode (.stNoteOn c), dataByte n, dataByte v] s =
      [none, none, some (if v ≠ 0 then .noteOn c n v else .noteOff c n 0)] ∧
    (feedAll [encode (.stNoteOn c), dataByte n, dataByte v] s).registers = (some ⟨.noteOn, c⟩, .empty)) ∧
  (∀ c n m v s, v ≠ 0 → trace [encode (.stNoteOn c), dataByte n, 0x00, dataByte m, dataByte v] s =
    [none, none, some (.noteOff c n 0), none, some (.noteOn c m v)]) ∧
  (∀ c n, decodeChan ⟨.noteOn, c⟩ [n, 0] = decodeChan ⟨.noteOff, c⟩ [n, 0])

/-- R103, R104, R107, R119, R120 and R123: `ST_POLY_PRESSURE`, `ST_CONTROL_CHANGE` and `ST_PITCH_BEND`, in every state, and their
messages; no controller number is special, and the two bytes of a Pitch Bend are not combined. -/
def Obligations.TwoByteKindsStatusAndMessage : Prop :=
  (∀ (c : Nibble) (s : State), exec (.stPolyPressure c) s =
    .next { s with rs := some ⟨.polyPressure, c⟩, pend := .chan ⟨.polyPressure, c⟩ [], out := none }) ∧
  (∀ (c : Nibble) (s : State), exec (.stControlChange c) s =
    .next { s with rs := some ⟨.controlChange, c⟩, pend := .chan ⟨.controlChange, c⟩ [], out := none }) ∧
  (∀ (c : Nibble) (s : State), exec (.stPitchBend c) s =
    .next { s with rs := some ⟨.pitchBend, c⟩, pend := .chan ⟨.pitchBend, c⟩ [], out := none }) ∧
  (∀ c : Nibble,
    (⟨.polyPressure, c⟩ : ChanStatus).toByte = 0xA0 ||| c.setWidth 8 ∧ encode (.stPolyPressure c) = 0xA0 ||| c.setWidth 8 ∧
    (⟨.controlChange, c⟩ : ChanStatus).toByte = 0xB0 ||| c.setWidth 8 ∧ encode (.stControlChange c) = 0xB0 ||| c.setWidth 8 ∧
    (⟨.pitchBend, c⟩ : ChanStatus).toByte = 0xE0 ||| c.setWidth 8 ∧ encode (.stPitchBend c) = 0xE0 ||| c.setWidth 8) ∧
  ChanKind.polyPressure.need = 2 ∧ ChanKind.controlChange.need = 2 ∧ ChanKind.pitchBend.need = 2 ∧
  (∀ (c : Nibble) (n p : Data7) (s : State),
    trace [encode (.stPolyPressure c), dataByte n, dataByte p] s = [none, none, some (.polyPressure c n p)] ∧
    (feedAll [encode (.stPolyPressure c), dataByte n, dataByte p] s).registers = (some ⟨.polyPressure, c⟩, .empty)) ∧
  (∀ (c : Nibble) (k x : Data7) (s : State),
    trace [encode (.stControlChange c), dataByte k, dataByte x] s = [none, none, some (.controlChange c k x)] ∧
    (feedAll [encode (.stControlChange c), dataByte k, dataByte x] s).registers = (some ⟨.controlChange, c⟩, .empty)) ∧
  (∀ (c : Nibble) (l m : Data7) (s : State),
    trace [encode (.stPitchBend c), dataByte l, dataByte m] s = [none, none, some (.pitchBend c l m)] ∧
    (feedAll [encode (.stPitchBend c), dataByte l, dataByte m] s).registers = (some ⟨.pitchBend, c⟩, .empty))

/-- R105, R106, R121 and R122: `ST_PROGRAM_CHANGE` and `ST_CHANNEL_PRESSURE`, in every state, and their messages; under running status
every single data byte is a complete message. -/
def Obligations.OneByteKindsStatusAndMessage : Prop :=
  (∀ (c : Nibble) (s : State), exec (.stProgramChange c) s =
    .next { s with rs := some ⟨.programChange, c⟩, pend := .chan ⟨.programChange, c⟩ [], out := none }) ∧
  (∀ (c : Nibble) (s : State), exec (.stChannelPressure c) s =
    .next { s with rs := some ⟨.channelPressure, c⟩, pend := .chan ⟨.channelPressure, c⟩ [], out := none }) ∧
  (∀ c : Nibble,
    (⟨.programChange, c⟩ : ChanStatus).toByte = 0xC0 ||| c.setWidth 8 ∧ encode (.stProgramChange c) = 0xC0 ||| c.setWidth 8 ∧
    (⟨.channelPressure, c⟩ : ChanStatus).toByte = 0xD0 ||| c.setWidth 8 ∧ encode (.stChannelPressure c) = 0xD0 ||| c.setWidth 8) ∧
  ChanKind.programChange.need = 1 ∧ ChanKind.channelPressure.need = 1 ∧
  (∀ (c : Nibble) (p q : Data7) (s : State),
    trace [encode (.stProgramChange c), dataByte p, dataByte q] s =
      [none, some (.programChange c p), some (.programChange c q)] ∧
    (feedAll [encode (.stProgramChange c), dataByte p] s).registers = (some ⟨.programChange, c⟩, .empty)) ∧
  (∀ (c : Nibble) (p : Data7) (s : State),
    trace [encode (.stChannelPressure c), dataByte p] s = [none, some (.channelPressure c p)] ∧
    (feedAll [encode (.stChannelPressure c), dataByte p] s).registers = (some ⟨.channelPressure, c⟩, .empty))

/-- R115: the machine's `decode` on complete data is the table of R115 on the status byte; only status bytes 0x80..0xEF, 0xF2 and
0xF3 reach it. -/
def Obligations.DecodeFollowsTable : Prop :=
  (∀ (st : ChanStatus) (data : List Data7), data.length = st.kind.need → refDecode st.toByte data = some (decodeChan st data)) ∧
  (∀ (k : SysComKind) (data : List Data7), data.length = k.need → refDecode k.toByte data = some (decodeSysCom k data)) ∧
  (∀ st : ChanStatus, isChannelStatus st.toByte = true) ∧ (∀ k : SysComKind, isAwaitedSystemCommon k.toByte = true)

/-! ### System Exclusive -/

/-- R80 and R81: 0xF0 in every state; its corner cases, which the spec derives from R80 and R133. -/
def Obligations.SoxOpensEmptySysEx : Prop :=
  (∀ s : State, exec .sox s = .next { s with rs := none, pend := .sysEx [], out := none }) ∧
  (∀ (s : State) (v : Data7), s.cfg.sysexCap = none →
    feedAll [0xF0, dataByte v] s = { s with rs := none, pend := .sysEx [v], out := none }) ∧
  (∀ s : State, s.cfg.sysexCap = none → trace [0xF0, 0x01, 0xF0, 0x02, 0xF7] s = [none, none, none, none, some (.sysEx [0x02])]) ∧
  (∀ (s : State) (v : Data7),
    trace [0xF0, 0xF7, dataByte v] s = [none, some (.sysEx []), some (.malformed (dataByte v) .orphanData)])

/-- R82: 0xF7 with a SysEx active emits the whole payload and closes it; a Real-Time byte received inside is not in the payload. -/
def Obligations.EoxEmitsActiveSysEx : Prop :=
  (∀ (s : State) (p : List Data7), exec .eox { s with pend := .sysEx p } =
    .next { s with rs := none, pend := .empty, out := some (.sysEx p), sink := s.sink ++ [.sysEx p] }) ∧
  (∀ s, trace [0xF0, 0xF7] s = [none, some (.sysEx [])]) ∧
  (∀ s : State, s.cfg.sysexCap = none → trace [0xF0, 0x01, 0x02, 0xF8, 0x03, 0xF7] s =
    [none, none, none, some .timingClock, none, some (.sysEx [0x01, 0x02, 0x03])])

/-- R83: 0xF7 with no SysEx active reports an unexpected EOX, aborts whatever is pending and clears running status (the spec's
decision D9, conflict C3); what follows. -/
def Obligations.EoxWithoutSysExIsMalformed : Prop :=
  (∀ s : State, s.sysexActive = false → exec .eox s =
    .next { s with rs := none, pend := .empty, out := some (.malformed 0xF7 .unexpectedEox),
                   sink := s.sink ++ [.malformed 0xF7 .unexpectedEox] }) ∧
  (∀ (s : State) (v : Data7), s.sysexActive = false →
    trace [0xF7, dataByte v] s = [some (.malformed 0xF7 .unexpectedEox), some (.malformed (dataByte v) .orphanData)]) ∧
  (∀ (s : State) (p : List Data7),
    trace [0xF7, 0xF7] { s with pend := .sysEx p } = [some (.sysEx p), some (.malformed 0xF7 .unexpectedEox)]) ∧
  (∀ s, trace [0x90, 0x3C, 0xF7, 0x40] s =
    [none, none, some (.malformed 0xF7 .unexpectedEox), some (.malformed 0x40 .orphanData)])

/-- R32: the four operations on the buffer, and no other: create empty at 0xF0, append at a data byte, read whole and release at
0xF7, discard at any other status byte but a Real-Time one, at overflow and at reset. The spec derives it from R80, R82, R111, R133. -/
def Obligations.FourBufferOperations : Prop :=
  (∀ (b : Byte) (s : State), s.payload = none → (feed b s).payload = if b = 0xF0 then some [] else none) ∧
  (∀ (b : Byte) (s : State) (p : List Data7), s.payload = some p →
    (feed b s).payload =
      if b = 0xF0 then some []
      else if isRealTime b = true then some p
      else if isDataByte b = true ∧ bufferFull s.cfg p = false then some (p ++ [b.extractLsb' 0 7])
      else none) ∧
  (∀ (b : Byte) (s : State) (p : List Data7), (feed b s).out = some (.sysEx p) ↔ b = 0xF7 ∧ s.payload = some p) ∧
  (∀ s : State, s.applyReset.payload = none ∧ s.applyReset.out = none)

/-- R34 and R84: between a 0xF0 and a 0xF7 with only data and Real-Time bytes between them the run emits the Real-Time messages and
then the SysEx of exactly the data bytes in order, and leaves both registers empty, so that the next data byte is an orphan; a SysEx is
emitted in no other way; a byte 0x80..0xF6 ends the SysEx in progress without emitting anything of it, reset ends it in silence, a full
buffer ends it with the overflow report; and while it lasts there is no running status (R84 is derived by the spec). -/
def Obligations.SysExIsExactlyItsFrame : Prop :=
  (∀ (w : List Byte) (s : State), dataOrRealTime w = true → bufferFits s.cfg (dataOf w).length = true →
    emitted (0xF0 :: w ++ [0xF7]) s = (w.filter isRealTime).map refRtMessage ++ [.sysEx (dataOf w)] ∧
    (feedAll (0xF0 :: w ++ [0xF7]) s).registers = (none, .empty) ∧
    ∀ v, (feed (dataByte v) (feedAll (0xF0 :: w ++ [0xF7]) s)).out = some (.malformed (dataByte v) .orphanData)) ∧
  (∀ (w : List Byte) (b : Byte) (s : State) (p : List Data7), s.payload = none →
    (feed b (feedAll w s)).out = some (.sysEx p) →
    b = 0xF7 ∧ ∃ u v, w = u ++ 0xF0 :: v ∧ dataOrRealTime v = true ∧ p = dataOf v) ∧
  (∀ (b : Byte) (s : State) (p : List Data7), isChannelStatus b = true ∨ isSystemCommon b = true → b ≠ 0xF7 →
    feed b { s with pend := .sysEx p } = feed b { s with pend := .empty }) ∧
  (∀ (s : State) (p : List Data7), State.payload (State.applyReset { s with pend := .sysEx p }) = none ∧
    State.out (State.applyReset { s with pend := .sysEx p }) = none) ∧
  (∀ (v : Data7) (s : State) (p : List Data7), s.cfg.sysexCap = some p.length →
    (feed (dataByte v) { s with pend := .sysEx p }).payload = none ∧
    (feed (dataByte v) { s with pend := .sysEx p }).out = some (.malformed (dataByte v) .sysexOverflow)) ∧
  (∀ (s : State) (p : List Data7), s.inv = true → s.payload = some p → s.rs = none)

/-! ### Other System Common -/

/-- R95 and R96: every byte 0xF1..0xF6, in every state; and Tune Request, which is emitted at once and, unlike a Real-Time byte, aborts
and clears. -/
def Obligations.SystemCommonClears : Prop :=
  (∀ (b : Byte) (s : State), isSystemCommon b = true → b ≠ 0xF0 → b ≠ 0xF7 →
    (0 < refNeedOf b → ∃ k : SysComKind, k.toByte = b ∧ k.need = refNeedOf b ∧
      exec (decode b) s = .next { s with rs := none, pend := .sysCom k [], out := none }) ∧
    (refNeedOf b = 0 → ∃ m, m = (if b = 0xF6 then Message.tuneRequest else .malformed b .undefinedStatus) ∧
      exec (decode b) s = .next { s with rs := none, pend := .empty, out := some m, sink := s.sink ++ [m] })) ∧
  encode .tuneRequest = 0xF6 ∧
  (∀ s : State, exec .tuneRequest s =
    .next { s with rs := none, pend := .empty, out := some .tuneRequest, sink := s.sink ++ [.tuneRequest] }) ∧
  (∀ s, trace [0x90, 0x3C, 0xF6, 0x40] s = [none, none, some .tuneRequest, some (.malformed 0x40 .orphanData)])

/-- R91, R92, R126 and R127: `ST_SONG_POSITION` and `ST_SONG_SELECT`, in every state, their messages, no running status after them, and
a byte of 0x80..0xF7 that arrives first drops them silently. -/
def Obligations.SongStatusAndMessages : Prop :=
  (∀ s : State, exec .stSongPosition s = .next { s with rs := none, pend := .sysCom .songPosition [], out := none }) ∧
  (∀ s : State, exec .stSongSelect s = .next { s with rs := none, pend := .sysCom .songSelect [], out := none }) ∧
  SysComKind.songPosition.toByte = 0xF2 ∧ encode .stSongPosition = 0xF2 ∧ SysComKind.songPosition.need = 2 ∧
  SysComKind.songSelect.toByte = 0xF3 ∧ encode .stSongSelect = 0xF3 ∧ SysComKind.songSelect.need = 1 ∧
  (∀ (l m x : Data7) (s : State), trace [0xF2, dataByte l, dataByte m, dataByte x] s =
      [none, none, some (.songPosition l m), some (.malformed (dataByte x) .orphanData)] ∧
    (feedAll [0xF2, dataByte l, dataByte m] s).registers = (none, .empty)) ∧
  (∀ (x y : Data7) (s : State), trace [0xF3, dataByte x, dataByte y] s =
      [none, some (.songSelect x), some (.malformed (dataByte y) .orphanData)] ∧
    (feedAll [0xF3, dataByte x] s).registers = (none, .empty)) ∧
  (∀ (b : Byte) (s : State) (k : SysComKind) (data : List Data7), isChannelStatus b = true ∨ isSystemCommon b = true →
    feed b { s with pend := .sysCom k data } = feed b { s with pend := .empty })

/-- R55, R77, R78, R90, R93 and R94: the five byte values to which the source assigns no message report themselves in every state; the
three System Common ones abort and clear, the two Real-Time ones touch nothing; what follows each. These are the spec's decisions D4, D5, D6, D22. -/
def Obligations.UndefinedBytesReport : Prop :=
  (∀ b : Byte, isUndefinedStatus b = true ↔ b = 0xF1 ∨ b = 0xF4 ∨ b = 0xF5 ∨ b = 0xF9 ∨ b = 0xFD) ∧
  encode .undefF1 = 0xF1 ∧ encode .undefF4 = 0xF4 ∧ encode .undefF5 = 0xF5 ∧ encode .undefF9 = 0xF9 ∧ encode .undefFD = 0xFD ∧
  (∀ s : State, exec .undefF1 s = .next { s with rs := none, pend := .empty, out := some (.malformed 0xF1 .undefinedStatus),
                                                 sink := s.sink ++ [.malformed 0xF1 .undefinedStatus] }) ∧
  (∀ s : State, exec .undefF4 s = .next { s with rs := none, pend := .empty, out := some (.malformed 0xF4 .undefinedStatus),
                                                 sink := s.sink ++ [.malformed 0xF4 .undefinedStatus] }) ∧
  (∀ s : State, exec .undefF5 s = .next { s with rs := none, pend := .empty, out := some (.malformed 0xF5 .undefinedStatus),
                                                 sink := s.sink ++ [.malformed 0xF5 .undefinedStatus] }) ∧
  (∀ s : State, exec .undefF9 s = .next { s with out := some (.malformed 0xF9 .undefinedStatus),
                                                 sink := s.sink ++ [.malformed 0xF9 .undefinedStatus] }) ∧
  (∀ s : State, exec .undefFD s = .next { s with out := some (.malformed 0xFD .undefinedStatus),
                                                 sink := s.sink ++ [.malformed 0xFD .undefinedStatus] }) ∧
  (∀ (s : State) (v : Data7),
    trace [0xF1, dataByte v] s = [some (.malformed 0xF1 .undefinedStatus), some (.malformed (dataByte v) .orphanData)]) ∧
  (∀ s, trace [0x90, 0x3C, 0xF4, 0x40] s =
    [none, none, some (.malformed 0xF4 .undefinedStatus), some (.malformed 0x40 .orphanData)]) ∧
  (∀ s, trace [0x90, 0x3C, 0xF9, 0x40] s =
    [none, none, some (.malformed 0xF9 .undefinedStatus), some (.noteOn 0 0x3C 0x40)]) ∧
  (∀ s : State, s.cfg.sysexCap = none → trace [0xF0, 0x01, 0xFD, 0x02, 0xF7] s =
    [none, none, some (.malformed 0xFD .undefinedStatus), none, some (.sysEx [0x01, 0x02])])

/-! ### Real-Time -/

/-- R43 and R70 to R76: every Real-Time byte, in every state, emits exactly one message, the same in every state, and touches neither
register nor the buffer; the six messages; 0xFF does not reset the decoder. -/
def Obligations.RealTimeTouchesNothing : Prop :=
  (∀ (b : Byte) (s : State), isRealTime b = true →
    exec (decode b) s = .next { s with out := some (refRtMessage b), sink := s.sink ++ [refRtMessage b] }) ∧
  (∀ s : State, exec .timingClock s = .next { s with out := some .timingClock, sink := s.sink ++ [.timingClock] }) ∧
  (∀ s : State, exec .start s = .next { s with out := some .start, sink := s.sink ++ [.start] }) ∧
  (∀ s : State, exec .continue_ s = .next { s with out := some .continue_, sink := s.sink ++ [.continue_] }) ∧
  (∀ s : State, exec .stop s = .next { s with out := some .stop, sink := s.sink ++ [.stop] }) ∧
  (∀ s : State, exec .activeSensing s = .next { s with out := some .activeSensing, sink := s.sink ++ [.activeSensing] }) ∧
  (∀ s : State, exec .systemReset s = .next { s with out := some .systemReset, sink := s.sink ++ [.systemReset] }) ∧
  encode .timingClock = 0xF8 ∧ encode .start = 0xFA ∧ encode .continue_ = 0xFB ∧ encode .stop = 0xFC ∧
  encode .activeSensing = 0xFE ∧ encode .systemReset = 0xFF ∧
  (∀ s, trace [0x90, 0xF8, 0x3C, 0x40] s = [none, some .timingClock, none, some (.noteOn 0 0x3C 0x40)]) ∧
  (∀ s, trace [0x90, 0x3C, 0xFF, 0x40] s = [none, none, some .systemReset, some (.noteOn 0 0x3C 0x40)])

/-- R79: a Real-Time byte inserted anywhere inserts its message there and changes nothing else (derived by the spec from R70). -/
def Obligations.RealTimeInterleaving : Prop :=
  (∀ (s : State) (r : Byte) (w : List Byte), isRealTime r = true →
    (feedAll (r :: w) s).registers = (feedAll w s).registers ∧ emitted (r :: w) s = refRtMessage r :: emitted w s) ∧
  (∀ (s : State) (r : Byte) (u w : List Byte), isRealTime r = true →
    (feedAll (u ++ r :: w) s).registers = (feedAll (u ++ w) s).registers ∧
    ∃ mu mw, emitted u s = mu ∧ emitted (u ++ w) s = mu ++ mw ∧ emitted (u ++ r :: w) s = mu ++ refRtMessage r :: mw)

/-- Deleting every Real-Time byte from a stream deletes exactly their messages from the output and leaves the end state as it is
(law L-c of 95_test_vectors.md, from R79). -/
def Obligations.DeletingRealTimeBytes : Prop :=
  ∀ (w : List Byte) (s : State),
    (feedAll (w.filter fun b => !isRealTime b) s).registers = (feedAll w s).registers ∧
    emitted (w.filter fun b => !isRealTime b) s =
      ((w.zip (trace w s)).filter fun p => !isRealTime p.1).filterMap Prod.snd

/-! ### Data bytes -/

/-- R110: the priority order of a data byte, and that it never writes running status. -/
def Obligations.DataBytePriority : Prop :=
  (∀ (v : Data7) (s : State) (p : List Data7),
    exec (.data v) { s with pend := .sysEx p } = .next (sysexAppend p v { s with pend := .sysEx p })) ∧
  (∀ (v : Data7) (s : State) (st : ChanStatus) (d : List Data7),
    exec (.data v) { s with pend := .chan st d } = .next (chanAppend st d v { s with pend := .chan st d })) ∧
  (∀ (v : Data7) (s : State) (k : SysComKind) (d : List Data7),
    exec (.data v) { s with pend := .sysCom k d } = .next (sysComAppend k d v { s with pend := .sysCom k d })) ∧
  (∀ (v : Data7) (s : State) (st : ChanStatus),
    exec (.data v) { s with rs := some st, pend := .empty } =
      .next (chanAppend st [] v { s with rs := some st, pend := .empty })) ∧
  (∀ (v : Data7) (s : State),
    exec (.data v) { s with rs := none, pend := .empty } = .next (orphan v { s with rs := none, pend := .empty })) ∧
  (∀ (v : Data7) (s : State), (feed (dataByte v) s).rs = s.rs) ∧ (∀ v : Data7, (dataByte v).extractLsb' 0 7 = v)

/-- R111: a data byte while a SysEx is active and the buffer is not full is appended unchanged, in silence; with
`SYSEX_CAP = INF` that is every data byte. -/
def Obligations.DataByteAppendsToSysEx : Prop :=
  ∀ (v : Data7) (s : State) (p : List Data7), (∀ cap, s.cfg.sysexCap = some cap → p.length < cap) →
    exec (.data v) { s with pend := .sysEx p } = .next { s with pend := .sysEx (p ++ [v]), out := none }

/-- R112: a data byte with the buffer exactly full reports the overflow and discards the whole SysEx; nothing of it is emitted,
what is left of it are orphans and its 0xF7 is unexpected (the spec's decision D10); with `SYSEX_CAP = INF` no overflow is ever reported. -/
def Obligations.FullBufferOverflows : Prop :=
  (∀ (v : Data7) (s : State) (p : List Data7), s.cfg.sysexCap = some p.length →
    exec (.data v) { s with pend := .sysEx p } =
      .next { s with pend := .empty, out := some (.malformed (dataByte v) .sysexOverflow),
                     sink := s.sink ++ [.malformed (dataByte v) .sysexOverflow] }) ∧
  (∀ (v x : Data7) (s : State) (p : List Data7), s.cfg.sysexCap = some p.length →
    trace [dataByte v, dataByte x] { s with rs := none, pend := .sysEx p } =
      [some (.malformed (dataByte v) .sysexOverflow), some (.malformed (dataByte x) .orphanData)] ∧
    trace [dataByte v, 0xF7] { s with rs := none, pend := .sysEx p } =
      [some (.malformed (dataByte v) .sysexOverflow), some (.malformed 0xF7 .unexpectedEox)]) ∧
  (∀ (b : Byte) (s : State) (b' : Byte), s.cfg.sysexCap = none → (feed b s).out ≠ some (.malformed b' .sysexOverflow)) ∧
  trace [0xF0, 0x01, 0x02, 0x03, 0xF7] (State.resetWith { sysexCap := some 2 }) =
    [none, none, none, some (.malformed 0x03 .sysexOverflow), some (.malformed 0xF7 .unexpectedEox)] ∧
  trace [0xF0, 0x01, 0x02, 0xF7] (State.resetWith { sysexCap := some 2 }) = [none, none, none, some (.sysEx [0x01, 0x02])] ∧
  trace [0xF0, 0x01, 0xF7] (State.resetWith { sysexCap := some 0 }) =
    [none, some (.malformed 0x01 .sysexOverflow), some (.malformed 0xF7 .unexpectedEox)]

/-- R113: a data byte while a fixed-length message is pending: the last one emits the message and clears `PEND`, an earlier one is
kept in the same shape; `RS` is untouched. -/
def Obligations.DataByteCompletesPending : Prop :=
  (∀ (v : Data7) (s : State) (st : ChanStatus) (d : List Data7), d.length + 1 = st.kind.need →
    exec (.data v) { s with pend := .chan st d } =
      .next { s with pend := .empty, out := some (decodeChan st (d ++ [v])), sink := s.sink ++ [decodeChan st (d ++ [v])] }) ∧
  (∀ (v : Data7) (s : State) (st : ChanStatus) (d : List Data7), d.length + 1 < st.kind.need →
    exec (.data v) { s with pend := .chan st d } = .next { s with pend := .chan st (d ++ [v]), out := none }) ∧
  (∀ (v : Data7) (s : State) (k : SysComKind) (d : List Data7), d.length + 1 = k.need →
    exec (.data v) { s with pend := .sysCom k d } =
      .next { s with pend := .empty, out := some (decodeSysCom k (d ++ [v])), sink := s.sink ++ [decodeSysCom k (d ++ [v])] }) ∧
  (∀ (v : Data7) (s : State) (k : SysComKind) (d : List Data7), d.length + 1 < k.need →
    exec (.data v) { s with pend := .sysCom k d } = .next { s with pend := .sysCom k (d ++ [v]), out := none })

/-- R114: a data byte under running status does what the status byte and the data byte would have done from the same state; with
`need_of(s) = 1` it emits at once, with 2 it opens the message. -/
def Obligations.DataByteUnderRunningStatus : Prop :=
  (∀ (v : Data7) (s : State) (st : ChanStatus), st.kind.need = 1 →
    exec (.data v) { s with rs := some st, pend := .empty } =
      .next { s with rs := some st, pend := .empty, out := some (decodeChan st [v]), sink := s.sink ++ [decodeChan st [v]] }) ∧
  (∀ (v : Data7) (s : State) (st : ChanStatus), st.kind.need = 2 →
    exec (.data v) { s with rs := some st, pend := .empty } =
      .next { s with rs := some st, pend := .chan st [v], out := none }) ∧
  (∀ (v : Data7) (s : State) (st : ChanStatus),
    feedAll [st.toByte, dataByte v] { s with rs := some st, pend := .empty } =
      feed (dataByte v) { s with rs := some st, pend := .empty }) ∧
  (∀ s, trace [0x90, 0x40, 0x7F, 0x40, 0x00] s =
    [none, none, some (.noteOn 0 0x40 0x7F), none, some (.noteOff 0 0x40 0)])

/-- R116: a data byte with nothing pending and no running status is reported, and no state is written; each further one is an orphan
again, and the next status byte resynchronises. -/
def Obligations.OrphanDataByte : Prop :=
  (∀ (v : Data7) (s : State), exec (.data v) { s with rs := none, pend := .empty } =
    .next { s with rs := none, pend := .empty, out := some (.malformed (dataByte v) .orphanData),
                   sink := s.sink ++ [.malformed (dataByte v) .orphanData] }) ∧
  (∀ (vs : List Data7) (s : State), s.registers = (none, .empty) →
    trace (vs.map dataByte) s = vs.map (fun v => some (.malformed (dataByte v) .orphanData)) ∧
    (feedAll (vs.map dataByte) s).registers = (none, .empty)) ∧
  trace [0x40, 0x90, 0x3C, 0x40] State.reset =
    [some (.malformed 0x40 .orphanData), none, none, some (.noteOn 0 0x3C 0x40)]

/-- R154: data bytes before the first status byte are orphans, one report each, and leave the registers empty; a 0xF7 there is an
unexpected EOX; the first status byte of 0x80..0xF6 then acts as on a fresh decoder. -/
def Obligations.StreamMayBeginAnywhere : Prop :=
  (∀ (vs : List Data7) (s : State), s.registers = (none, .empty) →
    emitted (vs.map dataByte) s = vs.map (fun v => .malformed (dataByte v) .orphanData) ∧
    (feedAll (vs.map dataByte) s).registers = (none, .empty)) ∧
  (∀ s : State, s.registers = (none, .empty) →
    (feed 0xF7 s).out = some (.malformed 0xF7 .unexpectedEox) ∧ (feed 0xF7 s).registers = (none, .empty)) ∧
  (∀ (vs : List Data7) (s : State) (b : Byte), s.registers = (none, .empty) → isDataByte b = false →
    (feed b (feedAll (vs.map dataByte) s)).registers = (feed b s).registers ∧
    (feed b (feedAll (vs.map dataByte) s)).out = (feed b s).out)

/-- R57: under running status any number of data-only groups decode as messages of that status, and running status stays; a stream
that begins with a data byte decodes as it would with the status byte before it; a byte of 0xF0..0xF7 clears running status and a
Real-Time byte neither sets nor clears it. -/
def Obligations.RunningStatusPersists : Prop :=
  (∀ (st : ChanStatus) (gs : List (Data7 × Data7)) (s : State), st.kind.need = 2 → s.registers = (some st, .empty) →
    emitted (gs.flatMap fun g => [dataByte g.1, dataByte g.2]) s = gs.map (fun g => decodeChan st [g.1, g.2]) ∧
    (feedAll (gs.flatMap fun g => [dataByte g.1, dataByte g.2]) s).registers = (some st, .empty)) ∧
  (∀ (st : ChanStatus) (vs : List Data7) (s : State), st.kind.need = 1 → s.registers = (some st, .empty) →
    emitted (vs.map dataByte) s = vs.map (fun v => decodeChan st [v]) ∧
    (feedAll (vs.map dataByte) s).registers = (some st, .empty)) ∧
  (∀ (st : ChanStatus) (v : Data7) (w : List Byte) (s : State), s.registers = (some st, .empty) →
    emitted (st.toByte :: dataByte v :: w) s = emitted (dataByte v :: w) s ∧
    (feedAll (st.toByte :: dataByte v :: w) s).registers = (feedAll (dataByte v :: w) s).registers) ∧
  (∀ (b : Byte) (s : State), isSystemCommon b = true → (feed b s).rs = none) ∧
  (∀ (b : Byte) (s : State), isRealTime b = true → (feed b s).rs = s.rs)

/-- R58: an incomplete group waits: through idle boundaries and Real-Time bytes it stays as it is, a data byte that is not its last
one is kept in silence, and only a byte of 0x80..0xF7 or reset ends it early, in silence. -/
def Obligations.IncompleteGroupWaits : Prop :=
  (∀ (s : State) (b : Byte) (rest : List PortIn),
    step { s with input := { reset := false, inValid := false, inByte := b } :: rest } =
      .next { s with input := rest, out := none }) ∧
  (∀ (s : State) (v : Bool) (b : Byte) (rest : List PortIn),
    ∃ t, step { s with input := { reset := true, inValid := v, inByte := b } :: rest } = .next t ∧
      t.pend = .empty ∧ t.out = none) ∧
  (∀ (b : Byte) (s : State) (st : ChanStatus) (d : List Data7), s.pend = .chan st d → d.length < st.kind.need →
    ((feed b s).pend = .chan st d ∧ isRealTime b = true) ∨
    (d.length + 1 < st.kind.need ∧ isDataByte b = true ∧ (feed b s).pend = .chan st (d ++ [b.extractLsb' 0 7]) ∧
      (feed b s).out = none) ∨
    (d.length + 1 = st.kind.need ∧ isDataByte b = true ∧ (feed b s).pend = .empty ∧
      (feed b s).out = some (decodeChan st (d ++ [b.extractLsb' 0 7]))) ∨
    ((isChannelStatus b = true ∨ isSystemCommon b = true) ∧ feed b s = feed b { s with pend := .empty })) ∧
  (∀ (b : Byte) (s : State) (k : SysComKind) (d : List Data7), s.pend = .sysCom k d → d.length < k.need →
    ((feed b s).pend = .sysCom k d ∧ isRealTime b = true) ∨
    (d.length + 1 < k.need ∧ isDataByte b = true ∧ (feed b s).pend = .sysCom k (d ++ [b.extractLsb' 0 7]) ∧ (feed b s).out = none) ∨
    (d.length + 1 = k.need ∧ isDataByte b = true ∧ (feed b s).pend = .empty ∧
      (feed b s).out = some (decodeSysCom k (d ++ [b.extractLsb' 0 7]))) ∨
    ((isChannelStatus b = true ∨ isSystemCommon b = true) ∧ feed b s = feed b { s with pend := .empty }))

/-! ### Malformed and abort -/

/-- R130: a Malformed carries the byte being consumed and one of the four reasons with its code, and only bytes the reason
allows. -/
def Obligations.MalformedCarriesTheConsumedByte : Prop :=
  (Reason.code .orphanData = 0 ∧ Reason.code .unexpectedEox = 1 ∧ Reason.code .undefinedStatus = 2 ∧
    Reason.code .sysexOverflow = 3) ∧
  (∀ (b b' : Byte) (s : State) (r : Reason), (feed b s).out = some (.malformed b' r) →
    b' = b ∧
    (r = .orphanData → isDataByte b = true) ∧ (r = .unexpectedEox → b = 0xF7) ∧
    (r = .undefinedStatus → b = 0xF1 ∨ b = 0xF4 ∨ b = 0xF5 ∨ b = 0xF9 ∨ b = 0xFD) ∧
    (r = .sysexOverflow → isDataByte b = true ∧ s.cfg.sysexCap ≠ none))

/-- R131, R132, R134, R136 and R137: when each condition arises, and that nothing else raises it, in every state of the invariant; the
registers each leaves; and, where they are empty, that every data byte before the next status byte is an orphan. -/
def Obligations.MalformedExactlyWhen : Prop :=
  ∀ (b : Byte) (s : State), s.inv = true →
    ((feed b s).out = some (.malformed b .orphanData) ↔ isDataByte b = true ∧ s.pend = .empty ∧ s.rs = none) ∧
    ((feed b s).out = some (.malformed b .orphanData) → (feed b s).registers = s.registers) ∧
    ((feed b s).out = some (.malformed b .unexpectedEox) ↔ b = 0xF7 ∧ s.payload = none) ∧
    ((feed b s).out = some (.malformed b .unexpectedEox) → (feed b s).registers = (none, .empty)) ∧
    ((feed b s).out = some (.malformed b .undefinedStatus) ↔ isUndefinedStatus b = true) ∧
    ((feed b s).out = some (.malformed b .undefinedStatus) →
      (feed b s).registers = if b = 0xF9 ∨ b = 0xFD then s.registers else (none, .empty)) ∧
    ((feed b s).out = some (.malformed b .sysexOverflow) ↔
      isDataByte b = true ∧ ∃ p, s.pend = .sysEx p ∧ s.cfg.sysexCap = some p.length) ∧
    ((feed b s).out = some (.malformed b .sysexOverflow) → (feed b s).registers = (none, .empty)) ∧
    (∀ r (vs : List Data7), (feed b s).out = some (.malformed b r) → isRealTime b = false →
      trace (vs.map dataByte) (feed b s) = vs.map (fun v => some (.malformed (dataByte v) .orphanData)))

/-- R133: a status byte of 0x80..0xF7, other than the 0xF7 that closes an active SysEx, does exactly what it does with nothing
pending and no running status: the aborted message leaves no trace (the source's default, the spec's decision D15). -/
def Obligations.AbortLeavesNoTrace : Prop :=
  (∀ (b : Byte) (s : State), isChannelStatus b = true ∨ isSystemCommon b = true → ¬ (b = 0xF7 ∧ s.sysexActive = true) →
    feed b s = feed b { s with rs := none, pend := .empty }) ∧
  (∀ s, emitted [0x90, 0x3C, 0x80, 0x3C, 0x40] s = [.noteOff 0 0x3C 0x40])

/-- R139: at most one message per step, so never more messages than bytes; an abort and a report, or an abort and Tune Request, in
one step give that one message. -/
def Obligations.AtMostOneMessagePerStep : Prop :=
  (∀ (b : Byte) (s : State), (feed b s).sink = s.sink ++ (feed b s).out.toList) ∧
  (∀ (w : List Byte) (s : State), (emitted w s).length ≤ w.length) ∧
  (∀ s : State, s.sysexActive = false → (feed 0xF7 s).sink = s.sink ++ [.malformed 0xF7 .unexpectedEox]) ∧
  (∀ (b : Byte) (s : State), b = 0xF1 ∨ b = 0xF4 ∨ b = 0xF5 → (feed b s).sink = s.sink ++ [.malformed b .undefinedStatus]) ∧
  (∀ s, (feed 0xF6 s).sink = s.sink ++ [.tuneRequest])

/-- R143: the step is total: every instruction in every state, and every step boundary, answers a next state, never a fault and
never a refusal. -/
def Obligations.EveryStepIsTotal : Prop :=
  (∀ (i : Instr) (s : State), exec i s = .next (feed (encode i) s)) ∧
  (∀ (b : Byte) (s : State), exec (decode b) s = .next (feed b s)) ∧
  (∀ s : State, ∃ t, step s = .next t)

/-- R25: what every emitted message satisfies: a Note-On never has velocity 0, a Malformed carries an allowed byte, and the channel
is the low nibble of the status byte under which the data byte was decoded. -/
def Obligations.EmittedMessagesAreLegal : Prop :=
  (∀ (b : Byte) (s : State) (m : Message), (feed b s).out = some m → m.legal = true) ∧
  (∀ (b : Byte) (s : State) (m : Message) (c : Nibble), (feed b s).out = some m → m.channel = some c →
    ∃ st, s.activeStatus = some st ∧ st.toByte.extractLsb' 0 4 = c) ∧
  (∀ c : Nibble, c.toNat ≤ 15 ∧ displayChannel c = c.toNat + 1) ∧ (∀ v : Data7, v.toNat ≤ 127)

/-! ### The two registers -/

/-- R11: what running status can hold, the only steps that write it, and the only step that reads it. -/
def Obligations.RunningStatusWritersAndReaders : Prop :=
  (∀ st : ChanStatus, 0x80 ≤ st.toByte.toNat ∧ st.toByte.toNat ≤ 0xEF ∧ ChanStatus.ofByte st.toByte = some st) ∧
  (∀ b : Byte, isChannelStatus b = true → ∃ st : ChanStatus, st.toByte = b) ∧
  (∀ (b : Byte) (s : State), (feed b s).rs =
    if isChannelStatus b = true then ChanStatus.ofByte b else if isSystemCommon b = true then none else s.rs) ∧
  (∀ s : State, s.applyReset.rs = none) ∧
  (∀ (b : Byte) (s : State) (r : Option ChanStatus), isDataByte b = false ∨ s.pend ≠ .empty →
    (feed b { s with rs := r }).pend = (feed b s).pend ∧ (feed b { s with rs := r }).out = (feed b s).out)

/-- R14: a pending Channel message belongs to the running status; every step keeps that, a `CHAN` shape arises in two ways only, and
a step that changes `RS` replaces or clears `PEND`. -/
def Obligations.PendingChannelMatchesRunningStatus : Prop :=
  (∀ (b : Byte) (s : State), s.chanMatchesRs = true → (feed b s).chanMatchesRs = true) ∧
  (∀ (b : Byte) (s : State) (st : ChanStatus) (d : List Data7), (feed b s).pend = .chan st d → (∀ st' d', s.pend ≠ .chan st' d') →
    (b = st.toByte ∧ d = []) ∨ (s.pend = .empty ∧ s.rs = some st ∧ ∃ v, b = dataByte v ∧ d = [v])) ∧
  (∀ (b : Byte) (s : State), (feed b s).rs ≠ s.rs →
    (feed b s).pend = .empty ∨ (feed b s).pend = .sysEx [] ∨ (∃ k, (feed b s).pend = .sysCom k []) ∨
    ∃ st, (feed b s).pend = .chan st [])

/-- R15: while a System Common or SysEx message is pending there is no running status; every step keeps that, and those shapes are
created only by a byte 0xF0..0xF7, which clears `RS`; the only step that sets `RS` replaces `PEND` with a `CHAN` shape. -/
def Obligations.PendingSystemHasNoRunningStatus : Prop :=
  (∀ (b : Byte) (s : State), s.systemHasNoRs = true → (feed b s).systemHasNoRs = true) ∧
  (∀ (b : Byte) (s : State), ((∃ k d, (feed b s).pend = .sysCom k d) ∨ ∃ p, (feed b s).pend = .sysEx p) →
    (∀ k d, s.pend ≠ .sysCom k d) → (∀ p, s.pend ≠ .sysEx p) → isSystemCommon b = true ∧ (feed b s).rs = none) ∧
  (∀ (b : Byte) (s : State), (feed b s).rs ≠ s.rs → (feed b s).rs ≠ none →
    ∃ st : ChanStatus, b = st.toByte ∧ (feed b s).pend = .chan st [])

/-- R16: a pending fixed-length message never has all its data bytes between steps: every step keeps that, and the data is then
empty or one byte of two. -/
def Obligations.PendingIsNeverComplete : Prop :=
  (∀ (b : Byte) (s : State), s.pendingIncomplete = true → (feed b s).pendingIncomplete = true) ∧
  (∀ (s : State) (st : ChanStatus) (d : List Data7), s.pend = .chan st d → s.pendingIncomplete = true →
    st.kind.need ≤ 2 ∧ (d = [] ∨ ∃ d1, d = [d1] ∧ st.kind.need = 2)) ∧
  (∀ (s : State) (k : SysComKind) (d : List Data7), s.pend = .sysCom k d → s.pendingIncomplete = true →
    k.need ≤ 2 ∧ (d = [] ∨ ∃ d1, d = [d1] ∧ k.need = 2))

/-- The invariant of the decoder (R14, R15, R16, the bound of R12): every step boundary, with any port sample, keeps it, from every
state that meets it. -/
def Obligations.DecoderInvariantEveryStep : Prop := ∀ s t : State, s.inv = true → step s = .next t → t.inv = true

/-- The frame of every instruction: the build and the samples still to come are never touched, the Sink only gains the step's message,
a data byte leaves `RS`, a Real-Time byte leaves both registers, no result depends on what was emitted before (R28), and, by the
model's choice of log entry 11, reset leaves the build, the samples still to come and the Sink's messages. -/
def Obligations.FrameOfEveryInstruction : Prop :=
  (∀ (b : Byte) (s : State), (feed b s).cfg = s.cfg ∧ (feed b s).input = s.input ∧
    (feed b s).sink = s.sink ++ (feed b s).out.toList) ∧
  (∀ (b : Byte) (s : State), isDataByte b = true → (feed b s).rs = s.rs) ∧
  (∀ (b : Byte) (s : State), isRealTime b = true → (feed b s).rs = s.rs ∧ (feed b s).pend = s.pend) ∧
  (∀ (b : Byte) (s : State) (o : Option Message) (k : List Message),
    (feed b { s with out := o, sink := k }).registers = (feed b s).registers ∧
    (feed b { s with out := o, sink := k }).out = (feed b s).out) ∧
  (∀ (s : State) (v : Bool) (b : Byte) (rest : List PortIn),
    step { s with input := { reset := true, inValid := v, inByte := b } :: rest } =
      .next { s with rs := none, pend := .empty, out := none, input := rest })

/-- R162: the next registers and the output depend only on the registers and the byte (for one build), so equal byte lists from
equal registers give equal outputs and end registers. -/
def Obligations.StepIsDeterminedByRegisters : Prop :=
  (∀ (b : Byte) (s s' : State), s.registers = s'.registers → s.cfg = s'.cfg →
    (feed b s).registers = (feed b s').registers ∧ (feed b s).out = (feed b s').out) ∧
  (∀ (w : List Byte) (s s' : State), s.registers = s'.registers → s.cfg = s'.cfg →
    trace w s = trace w s' ∧ (feedAll w s).registers = (feedAll w s').registers)

/-- R22: the two states with running status and nothing pending, or an empty Channel message of it pending, give the same outputs for
every future stream, though they are distinct; and an aborted message leaves no trace. -/
def Obligations.HiddenStatesAreEquivalent : Prop :=
  (∀ (w : List Byte) (st : ChanStatus) (s : State),
    trace w { s with rs := some st, pend := .empty } = trace w { s with rs := some st, pend := .chan st [] }) ∧
  (∀ (st : ChanStatus) (s : State),
    State.registers { s with rs := some st, pend := .empty } ≠ State.registers { s with rs := some st, pend := .chan st [] }) ∧
  (∀ (b : Byte) (s : State), isChannelStatus b = true ∨ isSystemCommon b = true → s.sysexActive = false →
    feed b s = feed b { s with pend := .empty })

/-- R125: the whole transition table. In the four status columns the result does not depend on the state, but for 0xF7 on whether a
SysEx is active; the last column by the shape of the state; and the nine rows are all the shapes of the invariant. -/
def Obligations.TransitionTable : Prop :=
  (∀ (b : Byte) (s : State), isRealTime b = true → (feed b s).registers = s.registers ∧ (feed b s).out = some (refRtMessage b)) ∧
  (∀ s, (feed 0xF0 s).registers = (none, .sysEx []) ∧ (feed 0xF0 s).out = none) ∧
  (∀ s, (feed 0xF7 s).registers = (none, .empty) ∧
    (feed 0xF7 s).out = match s.payload with | some p => some (.sysEx p) | none => some (.malformed 0xF7 .unexpectedEox)) ∧
  (∀ s, (feed 0xF2 s).registers = (none, .sysCom .songPosition []) ∧ (feed 0xF2 s).out = none) ∧
  (∀ s, (feed 0xF3 s).registers = (none, .sysCom .songSelect []) ∧ (feed 0xF3 s).out = none) ∧
  (∀ s, (feed 0xF6 s).registers = (none, .empty) ∧ (feed 0xF6 s).out = some .tuneRequest) ∧
  (∀ (b : Byte) (s : State), b = 0xF1 ∨ b = 0xF4 ∨ b = 0xF5 →
    (feed b s).registers = (none, .empty) ∧ (feed b s).out = some (.malformed b .undefinedStatus)) ∧
  (∀ (st : ChanStatus) (s : State), (feed st.toByte s).registers = (some st, .chan st []) ∧ (feed st.toByte s).out = none) ∧
  (∀ (v : Data7) (s : State), s.registers = (none, .empty) →
    (feed (dataByte v) s).registers = (none, .empty) ∧ (feed (dataByte v) s).out = some (.malformed (dataByte v) .orphanData)) ∧
  (∀ (v : Data7) (s : State) (st : ChanStatus), s.registers = (some st, .empty) ∨ s.registers = (some st, .chan st []) →
    ((feed (dataByte v) s).registers, (feed (dataByte v) s).out) =
      if st.kind.need = 1 then ((some st, .empty), some (decodeChan st [v])) else ((some st, .chan st [v]), none)) ∧
  (∀ (v d1 : Data7) (s : State) (st : ChanStatus), st.kind.need = 2 → s.registers = (some st, .chan st [d1]) →
    (feed (dataByte v) s).registers = (some st, .empty) ∧ (feed (dataByte v) s).out = some (decodeChan st [d1, v])) ∧
  (∀ (v : Data7) (s : State), s.registers = (none, .sysCom .songSelect []) →
    (feed (dataByte v) s).registers = (none, .empty) ∧ (feed (dataByte v) s).out = some (.songSelect v)) ∧
  (∀ (v : Data7) (s : State), s.registers = (none, .sysCom .songPosition []) →
    (feed (dataByte v) s).registers = (none, .sysCom .songPosition [v]) ∧ (feed (dataByte v) s).out = none) ∧
  (∀ (v d1 : Data7) (s : State), s.registers = (none, .sysCom .songPosition [d1]) →
    (feed (dataByte v) s).registers = (none, .empty) ∧ (feed (dataByte v) s).out = some (.songPosition d1 v)) ∧
  (∀ (v : Data7) (s : State) (p : List Data7), s.registers = (none, .sysEx p) → s.inv = true →
    ((feed (dataByte v) s).registers, (feed (dataByte v) s).out) =
      if s.cfg.sysexCap = some p.length then ((none, .empty), some (.malformed (dataByte v) .sysexOverflow))
      else ((none, .sysEx (p ++ [v])), none)) ∧
  (∀ s : State, s.inv = true →
    s.registers = (none, .empty) ∨ (∃ st, s.registers = (some st, .empty) ∨ s.registers = (some st, .chan st []) ∨
      ∃ d1, st.kind.need = 2 ∧ s.registers = (some st, .chan st [d1])) ∨
    s.registers = (none, .sysCom .songSelect []) ∨ s.registers = (none, .sysCom .songPosition []) ∨
    (∃ d1, s.registers = (none, .sysCom .songPosition [d1])) ∨ ∃ p, s.registers = (none, .sysEx p))

/-- The machine is the byte-level pseudocode of R48: on every stream, from every state of the invariant, each step emits what the
pseudocode emits and leaves the registers the pseudocode leaves, read as bytes. -/
def Obligations.MachineRefinesBytePseudocode : Prop :=
  (∀ (b : Byte) (s : State), s.inv = true → ((feed b s).toRef, (feed b s).out) = refFeed s.cfg.sysexCap b s.toRef) ∧
  (∀ (w : List Byte) (s : State), s.inv = true → trace w s = refTrace s.cfg.sysexCap w s.toRef)

/-! ### Runs, output encoding, several decoders -/

/-- R40: the output of a stream in two parts is the output of the first and then that of the second; each step has one place in it;
the Sink has received exactly it, in order. -/
def Obligations.OutputOrderIsArrivalOrder : Prop :=
  (∀ (u w : List Byte) (s : State), emitted (u ++ w) s = emitted u s ++ emitted w (feedAll u s)) ∧
  (∀ (w : List Byte) (s : State), (trace w s).length = w.length) ∧
  (∀ (w : List Byte) (s : State), (feedAll w s).sink = s.sink ++ emitted w s) ∧
  (∀ s, emitted [0x90, 0xF8, 0x3C, 0x40] s = [.timingClock, .noteOn 0 0x3C 0x40])

/-- A run of the machine over presented bytes is the run of R152: after as many steps as bytes, the state is the one the byte list
gives and the samples after them are still to come. -/
def Obligations.MachineRunIsByteRun : Prop :=
  ∀ (w : List Byte) (s : State) (rest : List PortIn),
    core.run w.length { s with input := samplesOf w ++ rest } = .next (feedAll w { s with input := rest })

/-- R156: where the chunk boundaries fall makes no difference to the state, nor to what the Sink has received. -/
def Obligations.ChunkBoundariesAreInvisible : Prop :=
  ∀ (ws : List (List Byte)) (s : State), feedChunks ws s = feedAll ws.flatten s

/-- R62: the tag and the fields of the output record of every variant; the record stands for the message whatever its don't-care fields
hold; tags 0 and 19..31 never appear (the numbers are the spec's, D11). -/
def Obligations.OutputRecordRoundTrip : Prop :=
  (∀ (any : OutRecord) (m : Message), (m.toRecord any).toMessage = some m) ∧
  (∀ (any : OutRecord) (m : Message), 1 ≤ (m.toRecord any).kind.toNat ∧ (m.toRecord any).kind.toNat ≤ 18) ∧
  (∀ (any : OutRecord) (c : Nibble) (x y : Data7),
    (fun r : OutRecord => (r.kind, r.chan, r.f1, r.f2)) ((Message.noteOff c x y).toRecord any) = (1, c, x, y) ∧
    (fun r : OutRecord => (r.kind, r.chan, r.f1, r.f2)) ((Message.noteOn c x y).toRecord any) = (2, c, x, y) ∧
    (fun r : OutRecord => (r.kind, r.chan, r.f1, r.f2)) ((Message.polyPressure c x y).toRecord any) = (3, c, x, y) ∧
    (fun r : OutRecord => (r.kind, r.chan, r.f1, r.f2)) ((Message.controlChange c x y).toRecord any) = (4, c, x, y) ∧
    (fun r : OutRecord => (r.kind, r.chan, r.f1)) ((Message.programChange c x).toRecord any) = (5, c, x) ∧
    (fun r : OutRecord => (r.kind, r.chan, r.f1)) ((Message.channelPressure c x).toRecord any) = (6, c, x) ∧
    (fun r : OutRecord => (r.kind, r.chan, r.f1, r.f2)) ((Message.pitchBend c x y).toRecord any) = (7, c, x, y) ∧
    (fun r : OutRecord => (r.kind, r.f1, r.f2)) ((Message.songPosition x y).toRecord any) = (9, x, y) ∧
    (fun r : OutRecord => (r.kind, r.f1)) ((Message.songSelect x).toRecord any) = (10, x)) ∧
  (∀ (any : OutRecord) (p : List Data7),
    (fun r : OutRecord => (r.kind, r.payload)) ((Message.sysEx p).toRecord any) = (8, p)) ∧
  (∀ any : OutRecord, [Message.tuneRequest, .timingClock, .start, .continue_, .stop, .activeSensing, .systemReset].map
    (fun m => (m.toRecord any).kind) = [11, 12, 13, 14, 15, 16, 17]) ∧
  (∀ (any : OutRecord) (b : Byte),
    (fun r : OutRecord => (r.kind, r.bad, r.reason)) ((Message.malformed b .orphanData).toRecord any) = (18, b, 0) ∧
    (fun r : OutRecord => (r.kind, r.bad, r.reason)) ((Message.malformed b .unexpectedEox).toRecord any) = (18, b, 1) ∧
    (fun r : OutRecord => (r.kind, r.bad, r.reason)) ((Message.malformed b .undefinedStatus).toRecord any) = (18, b, 2) ∧
    (fun r : OutRecord => (r.kind, r.bad, r.reason)) ((Message.malformed b .sysexOverflow).toRecord any) = (18, b, 3)) ∧
  (∀ r : OutRecord, r.kind.toNat = 0 ∨ 18 < r.kind.toNat → r.toMessage = none)

/-- R27: the registers of R27 hold the state of the invariant, whatever their don't-cares hold, and `ps` is `rs` whenever
`pk = 1`; at reset `rs_valid` and `pk` are 0 (the encoding is the spec's, D18). -/
def Obligations.RegisterEncodingRoundTrip : Prop :=
  (∀ (any : Regs) (s : State), s.inv = true → (s.toRegs any).readRs = s.rs ∧ (s.toRegs any).readPend = some s.pend) ∧
  (∀ (any : Regs) (s : State), s.inv = true → (s.toRegs any).pk = 1 → (s.toRegs any).ps = (s.toRegs any).rs) ∧
  (∀ any : Regs, (State.reset.toRegs any).rsValid = 0 ∧ (State.reset.toRegs any).pk = 0)

/-- R29: decoders are independent: a byte for one changes no other, and that one steps as it would alone. -/
def Obligations.DecodersAreIndependent : Prop :=
  (∀ (k j : Nat) (b : Byte) (ds : List State), j ≠ k → (feedAt k b ds)[j]? = ds[j]?) ∧
  (∀ (k : Nat) (b : Byte) (ds : List State), (feedAt k b ds)[k]? = (ds[k]?).map (feed b)) ∧
  (∀ (k j : Nat) (b b' : Byte) (ds : List State), j ≠ k → feedAt j b' (feedAt k b ds) = feedAt k b (feedAt j b' ds))
end

