-- ==== Sys2Proof/Laws/State.lean ====
section
/-! SUPPORT. One lemma per field and update of the state, each true by rfl, so that no proof unfolds a record update. -/

namespace Sys2Proof.Machine

@[simp] theorem State.setRs_rs (v : Option ChanStatus) (s : State) : (s.setRs v).rs = v := rfl
@[simp] theorem State.setRs_pend (v : Option ChanStatus) (s : State) : (s.setRs v).pend = s.pend := rfl
@[simp] theorem State.setRs_cfg (v : Option ChanStatus) (s : State) : (s.setRs v).cfg = s.cfg := rfl
@[simp] theorem State.setRs_input (v : Option ChanStatus) (s : State) : (s.setRs v).input = s.input := rfl
@[simp] theorem State.setRs_out (v : Option ChanStatus) (s : State) : (s.setRs v).out = s.out := rfl
@[simp] theorem State.setRs_sink (v : Option ChanStatus) (s : State) : (s.setRs v).sink = s.sink := rfl

@[simp] theorem State.setPend_rs (v : Pend) (s : State) : (s.setPend v).rs = s.rs := rfl
@[simp] theorem State.setPend_pend (v : Pend) (s : State) : (s.setPend v).pend = v := rfl
@[simp] theorem State.setPend_cfg (v : Pend) (s : State) : (s.setPend v).cfg = s.cfg := rfl
@[simp] theorem State.setPend_input (v : Pend) (s : State) : (s.setPend v).input = s.input := rfl
@[simp] theorem State.setPend_out (v : Pend) (s : State) : (s.setPend v).out = s.out := rfl
@[simp] theorem State.setPend_sink (v : Pend) (s : State) : (s.setPend v).sink = s.sink := rfl

@[simp] theorem State.silent_rs (s : State) : s.silent.rs = s.rs := rfl
@[simp] theorem State.silent_pend (s : State) : s.silent.pend = s.pend := rfl
@[simp] theorem State.silent_cfg (s : State) : s.silent.cfg = s.cfg := rfl
@[simp] theorem State.silent_input (s : State) : s.silent.input = s.input := rfl
@[simp] theorem State.silent_out (s : State) : s.silent.out = none := rfl
@[simp] theorem State.silent_sink (s : State) : s.silent.sink = s.sink := rfl

@[simp] theorem State.emit_rs (m : Message) (s : State) : (s.emit m).rs = s.rs := rfl
@[simp] theorem State.emit_pend (m : Message) (s : State) : (s.emit m).pend = s.pend := rfl
@[simp] theorem State.emit_cfg (m : Message) (s : State) : (s.emit m).cfg = s.cfg := rfl
@[simp] theorem State.emit_input (m : Message) (s : State) : (s.emit m).input = s.input := rfl
@[simp] theorem State.emit_out (m : Message) (s : State) : (s.emit m).out = some m := rfl
@[simp] theorem State.emit_sink (m : Message) (s : State) : (s.emit m).sink = s.sink ++ [m] := rfl

@[simp] theorem State.report_rs (b : Byte) (r : Reason) (s : State) : (s.report b r).rs = s.rs := rfl
@[simp] theorem State.report_pend (b : Byte) (r : Reason) (s : State) : (s.report b r).pend = s.pend := rfl
@[simp] theorem State.report_cfg (b : Byte) (r : Reason) (s : State) : (s.report b r).cfg = s.cfg := rfl
@[simp] theorem State.report_input (b : Byte) (r : Reason) (s : State) : (s.report b r).input = s.input := rfl
@[simp] theorem State.report_out (b : Byte) (r : Reason) (s : State) : (s.report b r).out = some (.malformed b r) := rfl
@[simp] theorem State.report_sink (b : Byte) (r : Reason) (s : State) : (s.report b r).sink = s.sink ++ [.malformed b r] := rfl

@[simp] theorem State.clear_rs (s : State) : s.clear.rs = none := rfl
@[simp] theorem State.clear_pend (s : State) : s.clear.pend = .empty := rfl
@[simp] theorem State.clear_cfg (s : State) : s.clear.cfg = s.cfg := rfl
@[simp] theorem State.clear_input (s : State) : s.clear.input = s.input := rfl
@[simp] theorem State.clear_out (s : State) : s.clear.out = s.out := rfl
@[simp] theorem State.clear_sink (s : State) : s.clear.sink = s.sink := rfl

@[simp] theorem State.openSysEx_rs (s : State) : s.openSysEx.rs = none := rfl
@[simp] theorem State.openSysEx_pend (s : State) : s.openSysEx.pend = .sysEx [] := rfl
@[simp] theorem State.openSysEx_cfg (s : State) : s.openSysEx.cfg = s.cfg := rfl
@[simp] theorem State.openSysEx_input (s : State) : s.openSysEx.input = s.input := rfl
@[simp] theorem State.openSysEx_out (s : State) : s.openSysEx.out = s.out := rfl
@[simp] theorem State.openSysEx_sink (s : State) : s.openSysEx.sink = s.sink := rfl

@[simp] theorem State.appendSysEx_rs (p : List Data7) (v : Data7) (s : State) : (s.appendSysEx p v).rs = s.rs := rfl
@[simp] theorem State.appendSysEx_pend (p : List Data7) (v : Data7) (s : State) : (s.appendSysEx p v).pend = .sysEx (p ++ [v]) := rfl
@[simp] theorem State.appendSysEx_cfg (p : List Data7) (v : Data7) (s : State) : (s.appendSysEx p v).cfg = s.cfg := rfl
@[simp] theorem State.appendSysEx_input (p : List Data7) (v : Data7) (s : State) : (s.appendSysEx p v).input = s.input := rfl
@[simp] theorem State.appendSysEx_out (p : List Data7) (v : Data7) (s : State) : (s.appendSysEx p v).out = s.out := rfl
@[simp] theorem State.appendSysEx_sink (p : List Data7) (v : Data7) (s : State) : (s.appendSysEx p v).sink = s.sink := rfl

@[simp] theorem State.openChannel_rs (st : ChanStatus) (s : State) : (s.openChannel st).rs = some st := rfl
@[simp] theorem State.openChannel_pend (st : ChanStatus) (s : State) : (s.openChannel st).pend = .chan st [] := rfl
@[simp] theorem State.openChannel_cfg (st : ChanStatus) (s : State) : (s.openChannel st).cfg = s.cfg := rfl
@[simp] theorem State.openChannel_input (st : ChanStatus) (s : State) : (s.openChannel st).input = s.input := rfl
@[simp] theorem State.openChannel_out (st : ChanStatus) (s : State) : (s.openChannel st).out = s.out := rfl
@[simp] theorem State.openChannel_sink (st : ChanStatus) (s : State) : (s.openChannel st).sink = s.sink := rfl

@[simp] theorem State.openSysCom_rs (k : SysComKind) (s : State) : (s.openSysCom k).rs = none := rfl
@[simp] theorem State.openSysCom_pend (k : SysComKind) (s : State) : (s.openSysCom k).pend = .sysCom k [] := rfl
@[simp] theorem State.openSysCom_cfg (k : SysComKind) (s : State) : (s.openSysCom k).cfg = s.cfg := rfl
@[simp] theorem State.openSysCom_input (k : SysComKind) (s : State) : (s.openSysCom k).input = s.input := rfl
@[simp] theorem State.openSysCom_out (k : SysComKind) (s : State) : (s.openSysCom k).out = s.out := rfl
@[simp] theorem State.openSysCom_sink (k : SysComKind) (s : State) : (s.openSysCom k).sink = s.sink := rfl

@[simp] theorem State.takePort_rs (s : State) : s.takePort.rs = s.rs := rfl
@[simp] theorem State.takePort_pend (s : State) : s.takePort.pend = s.pend := rfl
@[simp] theorem State.takePort_cfg (s : State) : s.takePort.cfg = s.cfg := rfl
@[simp] theorem State.takePort_input (s : State) : s.takePort.input = s.input.tail := rfl
@[simp] theorem State.takePort_out (s : State) : s.takePort.out = s.out := rfl
@[simp] theorem State.takePort_sink (s : State) : s.takePort.sink = s.sink := rfl

@[simp] theorem State.applyReset_rs (s : State) : s.applyReset.rs = none := rfl
@[simp] theorem State.applyReset_pend (s : State) : s.applyReset.pend = .empty := rfl
@[simp] theorem State.applyReset_cfg (s : State) : s.applyReset.cfg = s.cfg := rfl
@[simp] theorem State.applyReset_input (s : State) : s.applyReset.input = s.input := rfl
@[simp] theorem State.applyReset_out (s : State) : s.applyReset.out = none := rfl
@[simp] theorem State.applyReset_sink (s : State) : s.applyReset.sink = s.sink := rfl

@[simp] theorem State.idle_rs (s : State) : s.idle.rs = s.rs := rfl
@[simp] theorem State.idle_pend (s : State) : s.idle.pend = s.pend := rfl
@[simp] theorem State.idle_cfg (s : State) : s.idle.cfg = s.cfg := rfl
@[simp] theorem State.idle_input (s : State) : s.idle.input = s.input := rfl
@[simp] theorem State.idle_out (s : State) : s.idle.out = none := rfl
@[simp] theorem State.idle_sink (s : State) : s.idle.sink = s.sink := rfl

@[simp] theorem State.present_rs (b : Byte) (s : State) : (s.present b).rs = s.rs := rfl
@[simp] theorem State.present_pend (b : Byte) (s : State) : (s.present b).pend = s.pend := rfl
@[simp] theorem State.present_cfg (b : Byte) (s : State) : (s.present b).cfg = s.cfg := rfl
@[simp] theorem State.present_input (b : Byte) (s : State) : (s.present b).input = { reset := false, inValid := true, inByte := b } :: s.input := rfl
@[simp] theorem State.present_out (b : Byte) (s : State) : (s.present b).out = s.out := rfl
@[simp] theorem State.present_sink (b : Byte) (s : State) : (s.present b).sink = s.sink := rfl

@[simp] theorem State.resetWith_rs (cfg : Config) : (State.resetWith cfg).rs = none := rfl
@[simp] theorem State.resetWith_pend (cfg : Config) : (State.resetWith cfg).pend = .empty := rfl
@[simp] theorem State.resetWith_cfg (cfg : Config) : (State.resetWith cfg).cfg = cfg := rfl
@[simp] theorem State.resetWith_input (cfg : Config) : (State.resetWith cfg).input = [] := rfl
@[simp] theorem State.resetWith_out (cfg : Config) : (State.resetWith cfg).out = none := rfl
@[simp] theorem State.resetWith_sink (cfg : Config) : (State.resetWith cfg).sink = [] := rfl

end Sys2Proof.Machine
end

