-- ==== Sys2Proof/Laws/Ops.lean ====
section
/-! SUPPORT. For each shared operation, one lemma that says everything it can do; a proof cites it and does not unfold
the operation. -/

namespace Sys2Proof.Machine

/-- A Channel status byte, in every state (R100). -/
theorem channelStatus_eq (kind : ChanKind) (c : Nibble) (s : State) :
    channelStatus kind c s =
      { s with rs := some { kind := kind, chan := c }, pend := .chan { kind := kind, chan := c } [], out := none } := rfl

/-- A System Common status byte that awaits data, in every state (R96). -/
theorem awaitSysCom_eq (k : SysComKind) (s : State) :
    awaitSysCom k s = { s with rs := none, pend := .sysCom k [], out := none } := rfl

/-- A System Common status byte that completes at once, in every state (R96). -/
theorem completeSysCom_eq (m : Message) (s : State) :
    completeSysCom m s = { s with rs := none, pend := .empty, out := some m, sink := s.sink ++ [m] } := rfl

/-- An undefined System Common status byte, in every state (R134). -/
theorem undefinedSysCom_eq (b : Byte) (s : State) :
    undefinedSysCom b s =
      { s with rs := none, pend := .empty, out := some (.malformed b .undefinedStatus),
               sink := s.sink ++ [.malformed b .undefinedStatus] } := rfl

/-- What a data byte does to an active SysEx: overflow (R112) or append (R111). -/
theorem sysexAppend_cases (p : List Data7) (v : Data7) (s : State) :
    (bufferFull s.cfg p = true ∧ sysexAppend p v s = (s.setPend .empty).emit (.malformed (dataByte v) .sysexOverflow)) ∨
    (bufferFull s.cfg p = false ∧ sysexAppend p v s = (s.setPend (.sysEx (p ++ [v]))).silent) := by
  cases h : bufferFull s.cfg p
  · exact .inr ⟨rfl, by simp [sysexAppend, h, State.appendSysEx]⟩
  · exact .inl ⟨rfl, by simp [sysexAppend, h, State.report]⟩

/-- What a data byte does to a pending Channel message: complete it or be kept (R113). -/
theorem chanAppend_cases (st : ChanStatus) (data : List Data7) (v : Data7) (s : State) :
    (data.length + 1 = st.kind.need ∧ chanAppend st data v s = (s.setPend .empty).emit (decodeChan st (data ++ [v]))) ∨
    (data.length + 1 ≠ st.kind.need ∧ chanAppend st data v s = (s.setPend (.chan st (data ++ [v]))).silent) := by
  by_cases h : data.length + 1 = st.kind.need
  · exact .inl ⟨h, by simp [chanAppend, isComplete, h]⟩
  · exact .inr ⟨h, by simp [chanAppend, isComplete, h]⟩

/-- What a data byte does to a pending System Common message: complete it or be kept (R113). -/
theorem sysComAppend_cases (k : SysComKind) (data : List Data7) (v : Data7) (s : State) :
    (data.length + 1 = k.need ∧ sysComAppend k data v s = (s.setPend .empty).emit (decodeSysCom k (data ++ [v]))) ∨
    (data.length + 1 ≠ k.need ∧ sysComAppend k data v s = (s.setPend (.sysCom k (data ++ [v]))).silent) := by
  by_cases h : data.length + 1 = k.need
  · exact .inl ⟨h, by simp [sysComAppend, isComplete, h]⟩
  · exact .inr ⟨h, by simp [sysComAppend, isComplete, h]⟩

/-- Everything a data byte can do, by the shape it finds (R110). -/
theorem execData_cases (v : Data7) (s : State) :
    (∃ p, s.pend = .sysEx p ∧ execData v s = .next (sysexAppend p v s)) ∨
    (∃ st data, s.pend = .chan st data ∧ execData v s = .next (chanAppend st data v s)) ∨
    (∃ k data, s.pend = .sysCom k data ∧ execData v s = .next (sysComAppend k data v s)) ∨
    (∃ st, s.pend = .empty ∧ s.rs = some st ∧ execData v s = .next (chanAppend st [] v s)) ∨
    (s.pend = .empty ∧ s.rs = none ∧ execData v s = .next (orphan v s)) := by
  unfold execData
  cases hp : s.pend <;> cases hr : s.rs <;> simp

/-- Everything 0xF7 can do (R82, R83). -/
theorem execEox_cases (s : State) :
    (∃ p, s.pend = .sysEx p ∧ execEox s = .next (s.clear.emit (.sysEx p))) ∨
    (s.sysexActive = false ∧ execEox s = .next (s.clear.emit (.malformed 0xF7 .unexpectedEox))) := by
  unfold execEox State.sysexActive
  cases hp : s.pend <;> simp [State.report]

/-- The sample of a list that is not exhausted is its head. -/
@[simp] theorem State.portNow_cons (s : State) (p : PortIn) (rest : List PortIn) :
    State.portNow { s with input := p :: rest } = p := rfl

/-- Taking the head of a list that is not exhausted leaves its tail. -/
@[simp] theorem State.takePort_cons (s : State) (p : PortIn) (rest : List PortIn) :
    State.takePort { s with input := p :: rest } = { s with input := rest } := rfl

/-- A full buffer is a finite capacity that is reached (R111, R112). -/
theorem bufferFull_iff (cfg : Config) (p : List Data7) :
    bufferFull cfg p = true ↔ ∃ cap, cfg.sysexCap = some cap ∧ cap ≤ p.length := by
  unfold bufferFull
  cases cfg.sysexCap <;> simp

end Sys2Proof.Machine
end

