-- ==== Sys2Proof/Laws/PerInstr.lean ====
section
/-! SUPPORT. Statements made once per instruction. Family `RowMatch`: the byte of a well-formed instruction selects the
row of R54 that carries its mnemonic, and no other. -/

namespace Sys2Proof.Laws

/-- The instruction is well-formed and its byte selects exactly its own row of the opcode table (R54). -/
def RowMatch.Statement (i : Instr) : Prop :=
  i.wellFormed = true ∧ (opcodeRows.filter fun r => r.selects (encode i)).map OpcodeRow.mnemonic = [i.mnemonic]

theorem RowMatch.data (v : Data7) : RowMatch.Statement (.data v) := by
  revert v; unfold RowMatch.Statement; decide

theorem RowMatch.stNoteOff (c : Nibble) : RowMatch.Statement (.stNoteOff c) := by
  revert c; unfold RowMatch.Statement; decide

theorem RowMatch.stNoteOn (c : Nibble) : RowMatch.Statement (.stNoteOn c) := by
  revert c; unfold RowMatch.Statement; decide

theorem RowMatch.stPolyPressure (c : Nibble) : RowMatch.Statement (.stPolyPressure c) := by
  revert c; unfold RowMatch.Statement; decide

theorem RowMatch.stControlChange (c : Nibble) : RowMatch.Statement (.stControlChange c) := by
  revert c; unfold RowMatch.Statement; decide

theorem RowMatch.stProgramChange (c : Nibble) : RowMatch.Statement (.stProgramChange c) := by
  revert c; unfold RowMatch.Statement; decide

theorem RowMatch.stChannelPressure (c : Nibble) : RowMatch.Statement (.stChannelPressure c) := by
  revert c; unfold RowMatch.Statement; decide

theorem RowMatch.stPitchBend (c : Nibble) : RowMatch.Statement (.stPitchBend c) := by
  revert c; unfold RowMatch.Statement; decide

theorem RowMatch.sox : RowMatch.Statement .sox := by unfold RowMatch.Statement; decide

theorem RowMatch.undefF1 : RowMatch.Statement .undefF1 := by unfold RowMatch.Statement; decide

theorem RowMatch.stSongPosition : RowMatch.Statement .stSongPosition := by unfold RowMatch.Statement; decide

theorem RowMatch.stSongSelect : RowMatch.Statement .stSongSelect := by unfold RowMatch.Statement; decide

theorem RowMatch.undefF4 : RowMatch.Statement .undefF4 := by unfold RowMatch.Statement; decide

theorem RowMatch.undefF5 : RowMatch.Statement .undefF5 := by unfold RowMatch.Statement; decide

theorem RowMatch.tuneRequest : RowMatch.Statement .tuneRequest := by unfold RowMatch.Statement; decide

theorem RowMatch.eox : RowMatch.Statement .eox := by unfold RowMatch.Statement; decide

theorem RowMatch.timingClock : RowMatch.Statement .timingClock := by unfold RowMatch.Statement; decide

theorem RowMatch.undefF9 : RowMatch.Statement .undefF9 := by unfold RowMatch.Statement; decide

theorem RowMatch.start : RowMatch.Statement .start := by unfold RowMatch.Statement; decide

theorem RowMatch.continue_ : RowMatch.Statement .continue_ := by unfold RowMatch.Statement; decide

theorem RowMatch.stop : RowMatch.Statement .stop := by unfold RowMatch.Statement; decide

theorem RowMatch.undefFD : RowMatch.Statement .undefFD := by unfold RowMatch.Statement; decide

theorem RowMatch.activeSensing : RowMatch.Statement .activeSensing := by unfold RowMatch.Statement; decide

theorem RowMatch.systemReset : RowMatch.Statement .systemReset := by unfold RowMatch.Statement; decide

end Sys2Proof.Laws
end

