-- ==== Sys2Proof/Tests/Slice0.lean ====
section
/-! SUPPORT. The session's own tests: the class checks refuse ill-formed bytes, a written-out byte for every row of R54, one or
two steps per instruction against the spec's examples, and a witness for the hypotheses of every statement that has some. Expected
results are the spec's (95_test_vectors.md and the examples of the rules), not the model's. -/

namespace Sys2Proof.Tests

open Sys2Proof.Machine

/-- A small state with the given registers, otherwise as after reset. -/
def withRegs (rs : Option ChanStatus) (pend : Pend) : State := { State.reset with rs := rs, pend := pend }

/-- The same with a SysEx buffer of `cap` bytes. -/
def withCap (cap : Nat) (pend : Pend) : State := { State.resetWith { sysexCap := some cap } with pend := pend }

/-- What one byte does to the registers and the output. -/
def stepOf (b : Byte) (s : State) : Option ChanStatus × Pend × Option Message :=
  ((feed b s).rs, (feed b s).pend, (feed b s).out)

/-! ### Well-formedness: each check refuses a byte of another class -/

theorem test_wf_data_refuses_status : isDataByte 0x80 = false ∧ isDataByte 0x7F = true := by decide
theorem test_wf_channel_refuses_data_and_system :
    isChannelStatus 0x7F = false ∧ isChannelStatus 0xF0 = false ∧ isChannelStatus 0x80 = true ∧ isChannelStatus 0xEF = true := by decide
theorem test_wf_system_common_refuses_neighbours :
    isSystemCommon 0xEF = false ∧ isSystemCommon 0xF8 = false ∧ isSystemCommon 0xF0 = true ∧ isSystemCommon 0xF7 = true := by decide
theorem test_wf_real_time_refuses_eox : isRealTime 0xF7 = false ∧ isRealTime 0xF8 = true ∧ isRealTime 0xFF = true := by decide
theorem test_wf_awaited_refuses_f1_f6 :
    isAwaitedSystemCommon 0xF1 = false ∧ isAwaitedSystemCommon 0xF6 = false ∧ isAwaitedSystemCommon 0xF2 = true := by decide
theorem test_wf_undefined_refuses_named : isUndefinedStatus 0xF6 = false ∧ isUndefinedStatus 0xF8 = false := by decide
/-- The invariant refuses a `CHAN` shape of another running status (R14), a System shape beside running status (R15), a complete
pending message (R16) and a payload over the capacity (R12). -/
theorem test_wf_invariant_refuses :
    (withRegs none (.chan ⟨.noteOn, 0⟩ [])).inv = false ∧ (withRegs (some ⟨.noteOn, 0⟩) (.sysEx [])).inv = false ∧
    (withRegs none (.sysCom .songSelect [1])).inv = false ∧ (withCap 1 (.sysEx [1, 2])).inv = false ∧
    (withRegs (some ⟨.noteOn, 0⟩) (.chan ⟨.noteOn, 0⟩ [1])).inv = true := by decide
theorem test_wf_every_instruction : (Instr.data 0x7F).wellFormed = true ∧ (Instr.stPitchBend 15).wellFormed = true := by decide

/-! ### Decoding: a byte written out from R54 for every row -/

theorem test_decode_data : decode 0b00000000 = .data 0 ∧ decode 0b01111111 = .data 127 ∧ decode 0b00111100 = .data 60 := by decide
theorem test_decode_channel :
    decode 0b10000101 = .stNoteOff 5 ∧ decode 0b10011111 = .stNoteOn 15 ∧ decode 0b10100011 = .stPolyPressure 3 ∧
    decode 0b10110001 = .stControlChange 1 ∧ decode 0b11000101 = .stProgramChange 5 ∧
    decode 0b11011111 = .stChannelPressure 15 ∧ decode 0b11100010 = .stPitchBend 2 := by decide
theorem test_decode_system_common :
    decode 0b11110000 = .sox ∧ decode 0b11110001 = .undefF1 ∧ decode 0b11110010 = .stSongPosition ∧ decode 0b11110011 = .stSongSelect ∧
    decode 0b11110100 = .undefF4 ∧ decode 0b11110101 = .undefF5 ∧ decode 0b11110110 = .tuneRequest ∧ decode 0b11110111 = .eox := by
  decide
theorem test_decode_real_time :
    decode 0b11111000 = .timingClock ∧ decode 0b11111001 = .undefF9 ∧ decode 0b11111010 = .start ∧ decode 0b11111011 = .continue_ ∧
    decode 0b11111100 = .stop ∧ decode 0b11111101 = .undefFD ∧ decode 0b11111110 = .activeSensing ∧ decode 0b11111111 = .systemReset := by
  decide
theorem test_decode_bytes_refuses_empty : decodeBytes [] = .error .noByte := by rfl
theorem test_table_word : decodeTableWord 8 0xF7 = some .eox ∧ decodeTableWord 8 0x190 = none ∧ decodeTableWord 16 0x90 = none := by decide
theorem test_shorthands :
    encodeStream (expandNoteOn 2 0x3C 0x40) = [0x92, 0x3C, 0x40] ∧ encodeStream (expandRs 0x3E 0x41) = [0x3E, 0x41] := by decide
theorem test_fetch_runs_placed_word :
    step (State.reset.withFetchWord 8 0xF8) = exec .timingClock State.reset ∧
    step (State.reset.withFetchWord 8 0x93) = exec (.stNoteOn 3) State.reset := ⟨rfl, rfl⟩

/-! ### One step each -/

/-- Vectors of R111, R112, R114 and R116: orphan, running status with two and with one data byte, SysEx append and overflow. -/
theorem test_data_by_state :
    stepOf 0x40 State.reset = (none, .empty, some (.malformed 0x40 .orphanData)) ∧
    stepOf 0x3E (withRegs (some ⟨.noteOn, 0⟩) .empty) = (some ⟨.noteOn, 0⟩, .chan ⟨.noteOn, 0⟩ [0x3E], none) ∧
    stepOf 0x0B (withRegs (some ⟨.programChange, 5⟩) .empty) =
      (some ⟨.programChange, 5⟩, .empty, some (.programChange 5 0x0B)) ∧
    stepOf 0x02 (withRegs none (.sysEx [0x01])) = (none, .sysEx [0x01, 0x02], none) ∧
    stepOf 0x03 (withCap 2 (.sysEx [0x01, 0x02])) = (none, .empty, some (.malformed 0x03 .sysexOverflow)) := by decide
/-- The examples of R117 to R123, R126 and R127: the last data byte of every completable message, velocity 0 included. -/
theorem test_data_completes_messages :
    stepOf 0x40 (withRegs (some ⟨.noteOn, 0⟩) (.chan ⟨.noteOn, 0⟩ [0x3C])) =
      (some ⟨.noteOn, 0⟩, .empty, some (.noteOn 0 0x3C 0x40)) ∧
    stepOf 0x00 (withRegs (some ⟨.noteOn, 3⟩) (.chan ⟨.noteOn, 3⟩ [0x3C])) =
      (some ⟨.noteOn, 3⟩, .empty, some (.noteOff 3 0x3C 0)) ∧
    stepOf 0x02 (withRegs none (.sysCom .songPosition [0x10])) = (none, .empty, some (.songPosition 0x10 0x02)) ∧
    stepOf 0x05 (withRegs none (.sysCom .songSelect [])) = (none, .empty, some (.songSelect 0x05)) ∧
    (feed 0x22 (withRegs none (.chan ⟨.polyPressure, 3⟩ [0x3C]))).out = some (.polyPressure 3 0x3C 0x22) ∧
    (feed 0x64 (withRegs none (.chan ⟨.controlChange, 0⟩ [0x07]))).out = some (.controlChange 0 0x07 0x64) ∧
    (feed 0x30 (withRegs none (.chan ⟨.channelPressure, 15⟩ []))).out = some (.channelPressure 15 0x30) ∧
    (feed 0x40 (withRegs none (.chan ⟨.pitchBend, 0⟩ [0x00]))).out = some (.pitchBend 0 0x00 0x40) ∧
    (feed 0x00 (withRegs none (.chan ⟨.noteOff, 5⟩ [0x3C]))).out = some (.noteOff 5 0x3C 0x00) := by decide
theorem test_channel_status_aborts :
    stepOf 0x80 (withRegs (some ⟨.noteOn, 0⟩) (.chan ⟨.noteOn, 0⟩ [0x3C])) = (some ⟨.noteOff, 0⟩, .chan ⟨.noteOff, 0⟩ [], none) ∧
    stepOf 0x85 (withRegs none (.sysEx [1, 2])) = (some ⟨.noteOff, 5⟩, .chan ⟨.noteOff, 5⟩ [], none) := by decide
theorem test_channel_status_kinds :
    stepOf 0x9F State.reset = (some ⟨.noteOn, 15⟩, .chan ⟨.noteOn, 15⟩ [], none) ∧
    stepOf 0xA3 State.reset = (some ⟨.polyPressure, 3⟩, .chan ⟨.polyPressure, 3⟩ [], none) ∧
    stepOf 0xB0 State.reset = (some ⟨.controlChange, 0⟩, .chan ⟨.controlChange, 0⟩ [], none) ∧
    stepOf 0xC1 State.reset = (some ⟨.programChange, 1⟩, .chan ⟨.programChange, 1⟩ [], none) ∧
    stepOf 0xDF State.reset = (some ⟨.channelPressure, 15⟩, .chan ⟨.channelPressure, 15⟩ [], none) ∧
    stepOf 0xE2 State.reset = (some ⟨.pitchBend, 2⟩, .chan ⟨.pitchBend, 2⟩ [], none) := by decide
theorem test_status_bytes : (⟨.noteOn, 3⟩ : ChanStatus).toByte = 0x93 ∧ (⟨.pitchBend, 15⟩ : ChanStatus).toByte = 0xEF ∧ (⟨.noteOff, 0⟩ : ChanStatus).toByte = 0x80 := by decide
theorem test_sox_discards : stepOf 0xF0 (withRegs (some ⟨.noteOn, 0⟩) (.chan ⟨.noteOn, 0⟩ [1])) = (none, .sysEx [], none) := by decide
theorem test_eox_emits : stepOf 0xF7 (withRegs none (.sysEx [1, 2, 3])) = (none, .empty, some (.sysEx [1, 2, 3])) := by decide
theorem test_eox_unexpected :
    stepOf 0xF7 (withRegs (some ⟨.noteOn, 0⟩) (.chan ⟨.noteOn, 0⟩ [0x3C])) = (none, .empty, some (.malformed 0xF7 .unexpectedEox)) := by
  decide
theorem test_song_status :
    stepOf 0xF2 (withRegs (some ⟨.noteOn, 0⟩) .empty) = (none, .sysCom .songPosition [], none) ∧
    stepOf 0xF3 (withRegs none (.sysCom .songPosition [0x10])) = (none, .sysCom .songSelect [], none) := by decide
theorem test_tune_request_aborts : stepOf 0xF6 (withRegs none (.sysEx [1])) = (none, .empty, some .tuneRequest) := by decide
theorem test_undefined_system_common :
    stepOf 0xF1 (withRegs (some ⟨.noteOn, 0⟩) .empty) = (none, .empty, some (.malformed 0xF1 .undefinedStatus)) ∧
    stepOf 0xF4 (withRegs none (.sysEx [1])) = (none, .empty, some (.malformed 0xF4 .undefinedStatus)) ∧
    stepOf 0xF5 State.reset = (none, .empty, some (.malformed 0xF5 .undefinedStatus)) := by decide
/-- Vector T1, each byte on a state with a half-complete message, which it must leave alone (R70). -/
theorem test_real_time_keeps_pending :
    [0xF8, 0xF9, 0xFA, 0xFB, 0xFC, 0xFD, 0xFE, 0xFF].map (fun b => stepOf b (withRegs (some ⟨.noteOn, 0⟩) (.chan ⟨.noteOn, 0⟩ [0x3C]))) =
      [Message.timingClock, .malformed 0xF9 .undefinedStatus, .start, .continue_, .stop, .malformed 0xFD .undefinedStatus, .activeSensing,
        .systemReset].map (fun m => (some ⟨.noteOn, 0⟩, .chan ⟨.noteOn, 0⟩ [0x3C], some m)) := by decide
/-- Vector V3: reset wins over the byte presented with it. -/
theorem test_reset_wins :
    step { withRegs none (.sysEx [1, 2]) with input := [⟨true, true, 0x90⟩] } = .next { State.reset with input := [] } := by rfl
theorem test_idle_boundary :
    step { withRegs none (.sysEx [1]) with input := [⟨false, false, 0x90⟩], out := some .start } =
      .next { withRegs none (.sysEx [1]) with input := [], out := none } := by rfl
theorem test_record_note_on :
    Message.toRecord ⟨0, 0, 0, 0, 0xAA, 3, [9]⟩ (.noteOn 2 0x3C 0x40) = ⟨2, 2, 0x3C, 0x40, 0xAA, 3, [9]⟩ := by decide
theorem test_record_malformed :
    Message.toRecord ⟨0, 7, 1, 2, 0, 0, []⟩ (.malformed 0xF7 .unexpectedEox) = ⟨18, 7, 1, 2, 0xF7, 1, []⟩ := by decide
theorem test_pitch_bend_centre : value14 0x00 0x40 = 0x2000 ∧ value14 0x7F 0x7F = 16383 ∧ displayChannel 0 = 1 := by decide
theorem test_out_ports :
    (State.outPorts ⟨0, 0, 0, 0, 0, 0, []⟩ (feed 0xF8 State.reset)).outValid = true ∧
    (State.outPorts ⟨0, 0, 0, 0, 0, 0, []⟩ (feed 0xF0 State.reset)).outValid = false := by decide

/-! ### Witnesses: concrete inputs that meet the hypotheses of the statements -/

/-- Channel, System Common and Real-Time bytes at the ends of their ranges: the class hypotheses of NeedOfFollowsTable,
ChannelStatusOpensMessage, ChannelStatusCornerCases, RealTimeTouchesNothing, RealTimeInterleaving, AbortLeavesNoTrace,
HiddenStatesAreEquivalent, SongStatusAndMessages, RunningStatusPersists, RunningStatusWritersAndReaders, FrameOfEveryInstruction,
TransitionTable. -/
theorem witness_byte_classes :
    isChannelStatus 0x80 = true ∧ isChannelStatus 0xEF = true ∧ isSystemCommon 0xF0 = true ∧ isSystemCommon 0xF7 = true ∧
    isRealTime 0xF8 = true ∧ isRealTime 0xFF = true ∧ isDataByte 0x00 = true ∧ isDataByte 0x7F = true := by decide
theorem witness_ByteClassesPartition : (0x7F : Byte).toNat ≤ 0x7F ∧ (0x80 : Byte).toNat = 0x80 ∧ (0xF8 : Byte).toNat = 0xF8 := by decide
theorem witness_NoteOnStatusAndNormalisation : (1 : Data7) ≠ 0 := by decide
theorem witness_DecodeFollowsTable :
    [1, 2].length = ChanKind.noteOff.need ∧ [1].length = ChanKind.programChange.need ∧ [1, 2].length = SysComKind.songPosition.need ∧
    [1].length = SysComKind.songSelect.need := by decide
/-- Also for NeedOfFollowsTable, EoxEmitsActiveSysEx, UndefinedBytesReport and FullBufferOverflows. -/
theorem witness_SoxOpensEmptySysEx : State.reset.cfg.sysexCap = none := by decide
/-- Also for AtMostOneMessagePerStep and HiddenStatesAreEquivalent. -/
theorem witness_EoxWithoutSysExIsMalformed :
    State.reset.sysexActive = false ∧ (withRegs (some ⟨.noteOn, 0⟩) (.chan ⟨.noteOn, 0⟩ [1])).sysexActive = false := by decide
theorem witness_FourBufferOperations_empty : State.reset.payload = none := by decide
theorem witness_FourBufferOperations_active :
    (withRegs none (.sysEx [])).payload = some [] ∧ (withCap 1 (.sysEx [1])).payload = some [1] ∧
    bufferFull (withCap 1 (.sysEx [1])).cfg [1] = true ∧ bufferFull (withCap 1 (.sysEx [])).cfg [] = false := by decide
theorem witness_SysExIsExactlyItsFrame_frame :
    dataOrRealTime [0x00, 0xF8, 0x7F] = true ∧ bufferFits (withCap 2 .empty).cfg (dataOf [0x00, 0xF8, 0x7F]).length = true ∧
    bufferFits State.reset.cfg 1000 = true := by decide
theorem witness_SysExIsExactlyItsFrame_only :
    State.reset.payload = none ∧ (feed 0xF7 (feedAll [0x90, 0xF0, 0x01] State.reset)).out = some (.sysEx [0x01]) := by decide
theorem witness_SysExIsExactlyItsFrame_ends : isSystemCommon 0xF6 = true ∧ (0xF6 : Byte) ≠ 0xF7 ∧ isChannelStatus 0x80 = true := by decide
theorem witness_SysExIsExactlyItsFrame_full_and_invariant :
    (withCap 1 .empty).cfg.sysexCap = some ([1] : List Data7).length ∧ (withCap 1 (.sysEx [1])).inv = true ∧
    (withCap 1 (.sysEx [1])).payload = some [1] := by decide
theorem witness_SystemCommonClears_awaits :
    isSystemCommon 0xF2 = true ∧ (0xF2 : Byte) ≠ 0xF0 ∧ (0xF2 : Byte) ≠ 0xF7 ∧ 0 < refNeedOf 0xF2 := by decide
theorem witness_SystemCommonClears_at_once :
    isSystemCommon 0xF6 = true ∧ (0xF6 : Byte) ≠ 0xF0 ∧ (0xF6 : Byte) ≠ 0xF7 ∧ refNeedOf 0xF6 = 0 ∧ refNeedOf 0xF1 = 0 := by decide
theorem witness_UndefinedBytesReport : isUndefinedStatus 0xF1 = true ∧ isUndefinedStatus 0xFD = true := by decide
theorem witness_DataByteAppendsToSysEx_unbounded : ∀ cap, State.reset.cfg.sysexCap = some cap → ([1, 2] : List Data7).length < cap := by
  simp [State.reset, Config.default]
theorem witness_DataByteAppendsToSysEx_last_place :
    ∀ cap, (withCap 1 .empty).cfg.sysexCap = some cap → ([] : List Data7).length < cap := by
  simp [withCap]
theorem witness_FullBufferOverflows :
    (withCap 2 .empty).cfg.sysexCap = some ([1, 2] : List Data7).length ∧ (withCap 0 .empty).cfg.sysexCap = some ([] : List Data7).length := by
  decide
theorem witness_DataByteCompletesPending :
    ([] : List Data7).length + 1 = ChanKind.programChange.need ∧ ([1] : List Data7).length + 1 = ChanKind.noteOn.need ∧
    ([] : List Data7).length + 1 < ChanKind.noteOn.need ∧ ([] : List Data7).length + 1 = SysComKind.songSelect.need ∧
    ([] : List Data7).length + 1 < SysComKind.songPosition.need := by decide
/-- Also for ChannelStatusCornerCases. -/
theorem witness_DataByteUnderRunningStatus : ChanKind.channelPressure.need = 1 ∧ ChanKind.pitchBend.need = 2 := by decide
/-- Also for OrphanDataByte. -/
theorem witness_StreamMayBeginAnywhere : State.reset.registers = (none, .empty) ∧ isDataByte 0x80 = false ∧ isDataByte 0xF6 = false := by
  decide
theorem witness_RunningStatusPersists :
    (withRegs (some ⟨.noteOn, 0⟩) .empty).registers = (some ⟨.noteOn, 0⟩, .empty) ∧ ChanKind.noteOn.need = 2 ∧
    (withRegs (some ⟨.programChange, 0⟩) .empty).registers = (some ⟨.programChange, 0⟩, .empty) ∧ ChanKind.programChange.need = 1 := by
  decide
theorem witness_IncompleteGroupWaits :
    (withRegs (some ⟨.noteOn, 0⟩) (.chan ⟨.noteOn, 0⟩ [1])).pend = .chan ⟨.noteOn, 0⟩ [1] ∧ ([1] : List Data7).length < ChanKind.noteOn.need ∧
    (withRegs none (.sysCom .songSelect [])).pend = .sysCom .songSelect [] ∧ ([] : List Data7).length < SysComKind.songSelect.need := by decide
/-- Also for MalformedExactlyWhen: one state of the invariant for each reason. -/
theorem witness_MalformedCarriesTheConsumedByte :
    (feed 0x7F State.reset).out = some (.malformed 0x7F .orphanData) ∧ State.reset.inv = true ∧
    (feed 0xF7 State.reset).out = some (.malformed 0xF7 .unexpectedEox) ∧
    (feed 0xFD State.reset).out = some (.malformed 0xFD .undefinedStatus) ∧ (feed 0xF1 State.reset).out = some (.malformed 0xF1 .undefinedStatus) ∧
    (feed 0x00 (withCap 1 (.sysEx [1]))).out = some (.malformed 0x00 .sysexOverflow) ∧ (withCap 1 (.sysEx [1])).inv = true := by decide
theorem witness_MalformedExactlyWhen_next_orphan :
    (feed 0xF4 State.reset).out = some (.malformed 0xF4 .undefinedStatus) ∧ isRealTime 0xF4 = false ∧ State.reset.inv = true := by decide
theorem witness_AbortLeavesNoTrace :
    isSystemCommon 0xF7 = true ∧ ¬ ((0xF7 : Byte) = 0xF7 ∧ (withRegs (some ⟨.noteOn, 0⟩) (.chan ⟨.noteOn, 0⟩ [1])).sysexActive = true) ∧
    isSystemCommon 0xF6 = true ∧ ¬ ((0xF6 : Byte) = 0xF7 ∧ (withRegs none (.sysEx [1])).sysexActive = true) := by decide
theorem witness_EmittedMessagesAreLegal :
    (feed 0x40 (withRegs (some ⟨.noteOn, 3⟩) (.chan ⟨.noteOn, 3⟩ [0x3C]))).out = some (.noteOn 3 0x3C 0x40) ∧
    (Message.noteOn 3 0x3C 0x40).channel = some 3 := by decide
theorem witness_RunningStatusWritersAndReaders :
    isDataByte 0xF7 = false ∧ (withRegs none (.sysEx [1])).pend ≠ .empty := by decide
theorem witness_PendingChannelMatchesRunningStatus :
    (withRegs (some ⟨.noteOn, 0⟩) (.chan ⟨.noteOn, 0⟩ [])).chanMatchesRs = true ∧
    (feed 0x90 State.reset).pend = .chan ⟨.noteOn, 0⟩ [] ∧
    (feed 0x3C (withRegs (some ⟨.noteOn, 0⟩) .empty)).pend = .chan ⟨.noteOn, 0⟩ [0x3C] ∧ (feed 0x90 State.reset).rs ≠ State.reset.rs := by
  decide
theorem witness_PendingChannelMatchesRunningStatus_new_shape :
    (∀ st d, State.reset.pend ≠ .chan st d) ∧ ∀ st d, (withRegs (some ⟨.noteOn, 0⟩) .empty).pend ≠ .chan st d := by
  simp [State.reset, withRegs]
theorem witness_PendingSystemHasNoRunningStatus :
    (withRegs none (.sysCom .songPosition [1])).systemHasNoRs = true ∧ (feed 0xF2 State.reset).pend = .sysCom .songPosition [] ∧
    (feed 0xF0 State.reset).pend = .sysEx [] ∧ (feed 0x90 State.reset).rs ≠ State.reset.rs ∧ (feed 0x90 State.reset).rs ≠ none := by decide
theorem witness_PendingSystemHasNoRunningStatus_new_shape :
    (∀ k d, State.reset.pend ≠ .sysCom k d) ∧ ∀ p, State.reset.pend ≠ .sysEx p := by simp [State.reset]
theorem witness_PendingIsNeverComplete :
    (withRegs (some ⟨.noteOn, 0⟩) (.chan ⟨.noteOn, 0⟩ [1])).pendingIncomplete = true ∧
    (withRegs none (.sysCom .songPosition [1])).pendingIncomplete = true ∧ (withRegs none (.sysCom .songSelect [])).pendingIncomplete = true := by
  decide
theorem witness_DecoderInvariantEveryStep :
    (withCap 1 (.sysEx [])).inv = true ∧
    step { withCap 1 (.sysEx []) with input := [⟨false, true, 0x05⟩] } = .next { withCap 1 (.sysEx [0x05]) with input := [] } := ⟨rfl, rfl⟩
theorem witness_StepIsDeterminedByRegisters :
    State.reset.registers = State.registers { State.reset with sink := [.start], out := some .stop } ∧
    State.reset.cfg = State.cfg { State.reset with sink := [.start], out := some .stop } := by decide
theorem witness_TransitionTable_rows :
    (withRegs (some ⟨.noteOn, 0⟩) (.chan ⟨.noteOn, 0⟩ [1])).registers = (some ⟨.noteOn, 0⟩, .chan ⟨.noteOn, 0⟩ [1]) ∧
    (withRegs (some ⟨.noteOn, 0⟩) (.chan ⟨.noteOn, 0⟩ [])).registers = (some ⟨.noteOn, 0⟩, .chan ⟨.noteOn, 0⟩ []) ∧
    (withRegs none (.sysCom .songSelect [])).registers = (none, .sysCom .songSelect []) ∧
    (withRegs none (.sysCom .songPosition [])).registers = (none, .sysCom .songPosition []) ∧
    (withRegs none (.sysCom .songPosition [1])).registers = (none, .sysCom .songPosition [1]) ∧
    (withCap 1 (.sysEx [1])).registers = (none, .sysEx [1]) ∧ (withCap 1 (.sysEx [1])).inv = true ∧
    (withCap 1 (.sysEx [])).registers = (none, .sysEx []) ∧ (withCap 1 (.sysEx [])).inv = true := by decide
/-- Also for RegisterEncodingRoundTrip. -/
theorem witness_MachineRefinesBytePseudocode :
    (withRegs (some ⟨.noteOn, 0⟩) (.chan ⟨.noteOn, 0⟩ [1])).inv = true ∧ (withRegs none (.sysEx [1, 2])).inv = true ∧
    (State.toRegs ⟨1, 0, 3, 0, 1, 5, 7, [6]⟩ (withRegs (some ⟨.noteOn, 0⟩) (.chan ⟨.noteOn, 0⟩ []))).pk = 1 := by decide
theorem witness_OutputRecordRoundTrip : (0 : BitVec 5).toNat = 0 ∧ 18 < (19 : BitVec 5).toNat := by decide
theorem witness_DecodersAreIndependent : (0 : Nat) ≠ 1 := by decide

end Sys2Proof.Tests
end

section
/-! PROOFS. The byte classes: each class of bytes in the form its meaning needs, and the instruction of each. -/

namespace Sys2Proof.Machine

/-! ### The bytes of each class -/

/-- A data byte is the byte of its value (R45). -/
theorem dataByte_extractLsb' (b : Byte) : isDataByte b = true → dataByte (b.extractLsb' 0 7) = b := by
  revert b; decide

/-- Taking a Channel status byte apart loses nothing (R50). -/
@[simp] theorem ChanStatus.ofByte_toByte (st : ChanStatus) : ChanStatus.ofByte st.toByte = some st := by
  obtain ⟨k, c⟩ := st
  cases k <;> (revert c; decide)

/-- Exactly the bytes of R47 can be taken apart into a Channel status. -/
theorem ChanStatus.toByte_surjective (b : Byte) (h : isChannelStatus b = true) : ∃ st : ChanStatus, st.toByte = b := by
  have hmap : ∀ b : Byte, isChannelStatus b = true → (ChanStatus.ofByte b).map ChanStatus.toByte = some b := by decide
  obtain ⟨st, -, hst⟩ := Option.map_eq_some_iff.mp (hmap b h)
  exact ⟨st, hst⟩

@[simp] theorem SysComKind.ofByte_toByte (k : SysComKind) : SysComKind.ofByte k.toByte = some k := by
  cases k <;> rfl

@[simp] theorem dataByte_class (v : Data7) :
    isDataByte (dataByte v) = true ∧ isChannelStatus (dataByte v) = false ∧
    isSystemCommon (dataByte v) = false ∧ isRealTime (dataByte v) = false := by
  revert v; decide

@[simp] theorem ChanStatus.toByte_class (st : ChanStatus) :
    isDataByte st.toByte = false ∧ isChannelStatus st.toByte = true ∧
    isSystemCommon st.toByte = false ∧ isRealTime st.toByte = false := by
  obtain ⟨k, c⟩ := st
  cases k <;> (revert c; decide)

theorem isSystemCommon_class (b : Byte) : isSystemCommon b = true →
    isDataByte b = false ∧ isChannelStatus b = false ∧ isRealTime b = false := by
  revert b; decide

theorem isRealTime_class (b : Byte) : isRealTime b = true →
    isDataByte b = false ∧ isChannelStatus b = false ∧ isSystemCommon b = false := by
  revert b; decide

@[simp] theorem SysComKind.toByte_isSystemCommon (k : SysComKind) : isSystemCommon k.toByte = true := by
  cases k <;> rfl

/-- The four classes of R46 and R47, each in the form in which its meaning is stated. -/
theorem byte_cases (b : Byte) :
    (∃ v, b = dataByte v) ∨ (∃ st : ChanStatus, b = st.toByte) ∨ isSystemCommon b = true ∨ isRealTime b = true := by
  have hcover : ∀ b : Byte,
      isDataByte b = true ∨ isChannelStatus b = true ∨ isSystemCommon b = true ∨ isRealTime b = true := by decide
  obtain hd | hc | hsc | hrt := hcover b
  · exact .inl ⟨_, (dataByte_extractLsb' b hd).symm⟩
  · obtain ⟨st, rfl⟩ := ChanStatus.toByte_surjective b hc
    exact .inr (.inl ⟨st, rfl⟩)
  · exact .inr (.inr (.inl hsc))
  · exact .inr (.inr (.inr hrt))

/-- The eight bytes of the class System Common, by what they do (R80 to R83, R96). -/
theorem systemCommon_cases (b : Byte) (h : isSystemCommon b = true) :
    b = 0xF0 ∨ (∃ k : SysComKind, b = k.toByte) ∨ b = 0xF7 ∨ b = 0xF6 ∨ (b = 0xF1 ∨ b = 0xF4 ∨ b = 0xF5) := by
  have hvalues : ∀ b : Byte, isSystemCommon b = true →
      b = 0xF0 ∨ (b = SysComKind.songPosition.toByte ∨ b = SysComKind.songSelect.toByte) ∨ b = 0xF7 ∨ b = 0xF6 ∨
        (b = 0xF1 ∨ b = 0xF4 ∨ b = 0xF5) := by decide
  obtain h | (h | h) | h := hvalues b h
  · exact .inl h
  · exact .inr (.inl ⟨_, h⟩)
  · exact .inr (.inl ⟨_, h⟩)
  · exact .inr (.inr h)

/-! ### What one byte does, class by class -/

/-- `feed` is the next state `exec` answers. -/
theorem feed_of_exec {b : Byte} {s t : State} (h : exec (decode b) s = .next t) : feed b s = t := by
  simp [feed, h]

theorem decode_dataByte (v : Data7) : decode (dataByte v) = .data v := by
  revert v; decide

theorem feed_dataByte_of_exec {v : Data7} {s t : State} (h : execData v s = .next t) : feed (dataByte v) s = t :=
  feed_of_exec (by rw [decode_dataByte]; exact h)

/-- `st` with `data` is the Channel message that a data byte continues: the pending one, or the one without data that
running status stands for (R113, R114). -/
def State.OpenGroup (s : State) (st : ChanStatus) (data : List Data7) : Prop :=
  s.pend = .chan st data ∨ (s.pend = .empty ∧ s.rs = some st ∧ data = [])

theorem State.OpenGroup.activeStatus_eq {s : State} {st : ChanStatus} {data : List Data7} (h : s.OpenGroup st data) :
    s.activeStatus = some st := by
  obtain hp | ⟨hp, hr, -⟩ := h
  · simp [State.activeStatus, hp]
  · simp [State.activeStatus, hp, hr]

/-- A data byte while a SysEx is active (R111, R112). -/
theorem feed_dataByte_of_sysEx {s : State} {p : List Data7} (v : Data7) (hp : s.pend = .sysEx p) :
    feed (dataByte v) s = sysexAppend p v s :=
  feed_dataByte_of_exec (by simp [execData, hp])

/-- A data byte that continues a Channel message (R113, R114). -/
theorem feed_dataByte_of_openGroup {s : State} {st : ChanStatus} {data : List Data7} (v : Data7)
    (h : s.OpenGroup st data) : feed (dataByte v) s = chanAppend st data v s := by
  obtain hp | ⟨hp, hr, rfl⟩ := h
  · exact feed_dataByte_of_exec (by simp [execData, hp])
  · exact feed_dataByte_of_exec (by simp [execData, hp, hr])

/-- A data byte while a System Common message is pending (R113). -/
theorem feed_dataByte_of_sysCom {s : State} {k : SysComKind} {data : List Data7} (v : Data7)
    (hp : s.pend = .sysCom k data) : feed (dataByte v) s = sysComAppend k data v s :=
  feed_dataByte_of_exec (by simp [execData, hp])

/-- A data byte with nothing pending and no running status (R116). -/
theorem feed_dataByte_of_fresh {s : State} (v : Data7) (hp : s.pend = .empty) (hr : s.rs = none) :
    feed (dataByte v) s = orphan v s :=
  feed_dataByte_of_exec (by simp [execData, hp, hr])

/-- The instruction of a Channel status byte, by its type (R51). -/
def ChanKind.status : ChanKind → Nibble → Instr
  | .noteOff => .stNoteOff
  | .noteOn => .stNoteOn
  | .polyPressure => .stPolyPressure
  | .controlChange => .stControlChange
  | .programChange => .stProgramChange
  | .channelPressure => .stChannelPressure
  | .pitchBend => .stPitchBend

theorem decode_chanStatus (st : ChanStatus) : decode st.toByte = st.kind.status st.chan := by
  obtain ⟨k, c⟩ := st
  cases k <;> (revert c; decide)

theorem exec_status (k : ChanKind) (c : Nibble) (s : State) : exec (k.status c) s = .next (channelStatus k c s) := by
  cases k <;> rfl

/-- A Channel status byte, in every state (R100). -/
theorem feed_chanStatus (st : ChanStatus) (s : State) : feed st.toByte s = (s.openChannel st).silent :=
  feed_of_exec (by rw [decode_chanStatus]; exact exec_status st.kind st.chan s)

/-- 0xF0, in every state (R80). -/
theorem feed_sox (s : State) : feed 0xF0 s = s.openSysEx.silent := rfl

/-- 0xF2 and 0xF3, in every state (R96). -/
theorem feed_sysComKind (k : SysComKind) (s : State) : feed k.toByte s = (s.openSysCom k).silent := by
  cases k <;> rfl

/-- 0xF6, in every state (R95). -/
theorem feed_tuneRequest (s : State) : feed 0xF6 s = s.clear.emit .tuneRequest := rfl

/-- 0xF1, 0xF4 and 0xF5, in every state (R55, R134). -/
theorem feed_undefinedCommon {b : Byte} (h : b = 0xF1 ∨ b = 0xF4 ∨ b = 0xF5) (s : State) :
    feed b s = s.clear.report b .undefinedStatus := by
  obtain rfl | rfl | rfl := h <;> rfl

/-- 0xF7 while a SysEx is active (R82). -/
theorem feed_eox_of_sysEx {s : State} {p : List Data7} (hp : s.pend = .sysEx p) :
    feed 0xF7 s = s.clear.emit (.sysEx p) :=
  feed_of_exec (show execEox s = _ by simp [execEox, hp])

/-- 0xF7 with no SysEx active (R83). -/
theorem feed_eox_of_inactive {s : State} (h : s.sysexActive = false) :
    feed 0xF7 s = s.clear.report 0xF7 .unexpectedEox := by
  obtain ⟨p, hp, -⟩ | ⟨-, he⟩ := execEox_cases s
  · simp [State.sysexActive, hp] at h
  · exact feed_of_exec he

/-- A Real-Time byte, in every state (R70 to R78). -/
theorem feed_realTime (b : Byte) (s : State) (h : isRealTime b = true) : feed b s = s.emit (refRtMessage b) := by
  have hvalues : ∀ b : Byte, isRealTime b = true →
      b = 0xF8 ∨ b = 0xF9 ∨ b = 0xFA ∨ b = 0xFB ∨ b = 0xFC ∨ b = 0xFD ∨ b = 0xFE ∨ b = 0xFF := by decide
  obtain rfl | rfl | rfl | rfl | rfl | rfl | rfl | rfl := hvalues b h <;> rfl

/-- A status byte of 0x80..0xF7 that closes no active SysEx does what it does on empty registers (R133). -/
theorem feed_status_eq_fresh {b : Byte} {s : State} (hb : isChannelStatus b = true ∨ isSystemCommon b = true)
    (hend : ¬ (b = 0xF7 ∧ s.sysexActive = true)) : feed b s = feed b { s with rs := none, pend := .empty } := by
  obtain hc | hsc := hb
  · obtain ⟨st, rfl⟩ := ChanStatus.toByte_surjective b hc
    rw [feed_chanStatus, feed_chanStatus]; rfl
  · obtain rfl | ⟨k, rfl⟩ | rfl | rfl | hu := systemCommon_cases b hsc
    · rfl
    · rw [feed_sysComKind, feed_sysComKind]; rfl
    · rw [feed_eox_of_inactive (by simpa using hend), feed_eox_of_inactive rfl]; rfl
    · rfl
    · rw [feed_undefinedCommon hu, feed_undefinedCommon hu]; rfl

end Sys2Proof.Machine
end

section
/-! PROOFS. Everything one byte can do, once, as a relation; the model's `feed` is exactly it. -/

namespace Sys2Proof.Machine

/-- `ByteStep b s t`: the byte `b` leads from `s` to `t`. One constructor for each thing a byte can do, with all that
holds when it does it. -/
inductive ByteStep : Byte → State → State → Prop
  /-- R112 -/
  | overflow {s : State} (v : Data7) (p : List Data7) (hp : s.pend = .sysEx p) (hfull : bufferFull s.cfg p = true) :
      ByteStep (dataByte v) s ((s.setPend .empty).emit (.malformed (dataByte v) .sysexOverflow))
  /-- R111 -/
  | sysExKeep {s : State} (v : Data7) (p : List Data7) (hp : s.pend = .sysEx p) (hroom : bufferFull s.cfg p = false) :
      ByteStep (dataByte v) s (s.setPend (.sysEx (p ++ [v]))).silent
  /-- R113, R114, the last data byte -/
  | chanComplete {s : State} (v : Data7) (st : ChanStatus) (d : List Data7) (hopen : s.OpenGroup st d)
      (hlast : d.length + 1 = st.kind.need) :
      ByteStep (dataByte v) s ((s.setPend .empty).emit (decodeChan st (d ++ [v])))
  /-- R113, R114, an earlier data byte -/
  | chanKeep {s : State} (v : Data7) (st : ChanStatus) (d : List Data7) (hopen : s.OpenGroup st d)
      (hmore : d.length + 1 ≠ st.kind.need) :
      ByteStep (dataByte v) s (s.setPend (.chan st (d ++ [v]))).silent
  /-- R113, the last data byte -/
  | sysComComplete {s : State} (v : Data7) (k : SysComKind) (d : List Data7) (hp : s.pend = .sysCom k d)
      (hlast : d.length + 1 = k.need) :
      ByteStep (dataByte v) s ((s.setPend .empty).emit (decodeSysCom k (d ++ [v])))
  /-- R113, an earlier data byte -/
  | sysComKeep {s : State} (v : Data7) (k : SysComKind) (d : List Data7) (hp : s.pend = .sysCom k d)
      (hmore : d.length + 1 ≠ k.need) :
      ByteStep (dataByte v) s (s.setPend (.sysCom k (d ++ [v]))).silent
  /-- R116 -/
  | orphan {s : State} (v : Data7) (hp : s.pend = .empty) (hr : s.rs = none) :
      ByteStep (dataByte v) s (s.emit (.malformed (dataByte v) .orphanData))
  /-- R100 -/
  | channelStatus {s : State} (st : ChanStatus) : ByteStep st.toByte s (s.openChannel st).silent
  /-- R80 -/
  | sox {s : State} : ByteStep 0xF0 s s.openSysEx.silent
  /-- R96 -/
  | awaitSysCom {s : State} (k : SysComKind) : ByteStep k.toByte s (s.openSysCom k).silent
  /-- R82 -/
  | endSysEx {s : State} (p : List Data7) (hp : s.pend = .sysEx p) : ByteStep 0xF7 s (s.clear.emit (.sysEx p))
  /-- R83 -/
  | unexpectedEox {s : State} (hidle : s.sysexActive = false) :
      ByteStep 0xF7 s (s.clear.emit (.malformed 0xF7 .unexpectedEox))
  /-- R95 -/
  | tuneRequest {s : State} : ByteStep 0xF6 s (s.clear.emit .tuneRequest)
  /-- R134 -/
  | undefinedCommon {s : State} {b : Byte} (hb : b = 0xF1 ∨ b = 0xF4 ∨ b = 0xF5) :
      ByteStep b s (s.clear.emit (.malformed b .undefinedStatus))
  /-- R70 to R78 -/
  | realTime {s : State} {b : Byte} (hb : isRealTime b = true) : ByteStep b s (s.emit (refRtMessage b))

/-- What the bytes 0x00..0x7F do is a `ByteStep`. -/
theorem byteStep_feed_dataByte (v : Data7) (s : State) : ByteStep (dataByte v) s (feed (dataByte v) s) := by
  have hchan {st d} (hopen : s.OpenGroup st d) : ByteStep (dataByte v) s (feed (dataByte v) s) := by
    rw [feed_dataByte_of_openGroup v hopen]
    obtain ⟨hlast, he⟩ | ⟨hmore, he⟩ := chanAppend_cases st d v s <;> rw [he]
    · exact .chanComplete v st d hopen hlast
    · exact .chanKeep v st d hopen hmore
  cases hp : s.pend with
  | empty =>
    cases hr : s.rs with
    | none => rw [feed_dataByte_of_fresh v hp hr]; exact .orphan v hp hr
    | some st => exact hchan (.inr ⟨hp, hr, rfl⟩)
  | chan st d => exact hchan (.inl hp)
  | sysCom k d =>
    rw [feed_dataByte_of_sysCom v hp]
    obtain ⟨hlast, he⟩ | ⟨hmore, he⟩ := sysComAppend_cases k d v s <;> rw [he]
    · exact .sysComComplete v k d hp hlast
    · exact .sysComKeep v k d hp hmore
  | sysEx p =>
    rw [feed_dataByte_of_sysEx v hp]
    obtain ⟨hfull, he⟩ | ⟨hroom, he⟩ := sysexAppend_cases p v s <;> rw [he]
    · exact .overflow v p hp hfull
    · exact .sysExKeep v p hp hroom

/-- What the bytes 0xF0..0xF7 do is a `ByteStep`. -/
theorem byteStep_feed_systemCommon {b : Byte} (h : isSystemCommon b = true) (s : State) : ByteStep b s (feed b s) := by
  obtain rfl | ⟨k, rfl⟩ | rfl | rfl | hu := systemCommon_cases b h
  · exact .sox
  · rw [feed_sysComKind]; exact .awaitSysCom k
  · cases hp : s.pend with
    | sysEx p => rw [feed_eox_of_sysEx hp]; exact .endSysEx p hp
    | empty | chan | sysCom =>
      have hidle : s.sysexActive = false := by simp [State.sysexActive, hp]
      rw [feed_eox_of_inactive hidle]; exact .unexpectedEox hidle
  · exact .tuneRequest
  · rw [feed_undefinedCommon hu]; exact .undefinedCommon hu

/-- Every byte, in every state, does one of the things of `ByteStep`. -/
theorem byteStep_feed (b : Byte) (s : State) : ByteStep b s (feed b s) := by
  obtain ⟨v, rfl⟩ | ⟨st, rfl⟩ | hsc | hrt := byte_cases b
  · exact byteStep_feed_dataByte v s
  · rw [feed_chanStatus]; exact .channelStatus st
  · exact byteStep_feed_systemCommon hsc s
  · rw [feed_realTime b s hrt]; exact .realTime hrt

/-- What `ByteStep` allows is what `feed` does, so a byte's effect is determined. -/
theorem ByteStep.feed_eq {b : Byte} {s t : State} (h : ByteStep b s t) : feed b s = t := by
  cases h with
  | overflow v p hp hfull => rw [feed_dataByte_of_sysEx v hp]; simp [sysexAppend, hfull, State.report]
  | sysExKeep v p hp hroom => rw [feed_dataByte_of_sysEx v hp]; simp [sysexAppend, hroom, State.appendSysEx]
  | chanComplete v st d hopen hlast => rw [feed_dataByte_of_openGroup v hopen]; simp [chanAppend, isComplete, hlast]
  | chanKeep v st d hopen hmore => rw [feed_dataByte_of_openGroup v hopen]; simp [chanAppend, isComplete, hmore]
  | sysComComplete v k d hp hlast => rw [feed_dataByte_of_sysCom v hp]; simp [sysComAppend, isComplete, hlast]
  | sysComKeep v k d hp hmore => rw [feed_dataByte_of_sysCom v hp]; simp [sysComAppend, isComplete, hmore]
  | orphan v hp hr => exact feed_dataByte_of_fresh v hp hr
  | channelStatus st => exact feed_chanStatus st s
  | sox | tuneRequest => rfl
  | awaitSysCom k => exact feed_sysComKind k s
  | endSysEx p hp => exact feed_eox_of_sysEx hp
  | unexpectedEox hidle => exact feed_eox_of_inactive hidle
  | undefinedCommon hb => exact feed_undefinedCommon hb s
  | realTime hb => exact feed_realTime b s hb

end Sys2Proof.Machine
end

section
/-! PROOFS. Frames: what a byte leaves alone and what its effect depends on (R11, R28, R43). -/

namespace Sys2Proof.Machine

/-! ### What a byte leaves alone -/

/-- No byte touches the build, the samples still to come or what the Sink has already taken. -/
theorem feed_frame (b : Byte) (s : State) :
    (feed b s).cfg = s.cfg ∧ (feed b s).input = s.input ∧ (feed b s).sink = s.sink ++ (feed b s).out.toList := by
  have hstep := byteStep_feed b s
  generalize feed b s = t at hstep ⊢
  cases hstep <;> simp

@[simp] theorem feed_cfg (b : Byte) (s : State) : (feed b s).cfg = s.cfg := (feed_frame b s).1
@[simp] theorem feed_input (b : Byte) (s : State) : (feed b s).input = s.input := (feed_frame b s).2.1
theorem feed_sink (b : Byte) (s : State) : (feed b s).sink = s.sink ++ (feed b s).out.toList := (feed_frame b s).2.2

/-- The three writers of `RS` (R11): a Channel status byte, a byte 0xF0..0xF7, and no other. -/
theorem feed_rs (b : Byte) (s : State) : (feed b s).rs =
    if isChannelStatus b = true then ChanStatus.ofByte b else if isSystemCommon b = true then none else s.rs := by
  have hstep := byteStep_feed b s
  generalize feed b s = t at hstep ⊢
  cases hstep with
  | overflow | sysExKeep | chanComplete | chanKeep | sysComComplete | sysComKeep | orphan => simp
  | channelStatus st => simp
  | sox | endSysEx | unexpectedEox | tuneRequest => rfl
  | awaitSysCom k => cases k <;> rfl
  | undefinedCommon hb => obtain rfl | rfl | rfl := hb <;> rfl
  | realTime hb => simp [isRealTime_class _ hb]

theorem feed_rs_of_isDataByte {b : Byte} (s : State) (h : isDataByte b = true) : (feed b s).rs = s.rs := by
  rw [← dataByte_extractLsb' b h]
  simp [feed_rs]

theorem feed_rs_of_isSystemCommon {b : Byte} (s : State) (h : isSystemCommon b = true) : (feed b s).rs = none := by
  simp [feed_rs, h, isSystemCommon_class b h]

/-! ### What the effect of a byte depends on -/

/-- The fields of the state that belong to the environment, replaced. -/
def State.withEnv (i : List PortIn) (o : Option Message) (k : List Message) (s : State) : State :=
  { s with input := i, out := o, sink := k }

/-- A byte does the same whatever the environment's fields hold; the Sink gains the same message. -/
theorem ByteStep.withEnv {b : Byte} {s t : State} (i : List PortIn) (o : Option Message) (k : List Message)
    (h : ByteStep b s t) : ByteStep b (s.withEnv i o k) (t.withEnv i t.out (t.out.elim k fun m => k ++ [m])) := by
  cases h with
  | overflow v p hp hfull => exact .overflow v p hp hfull
  | sysExKeep v p hp hroom => exact .sysExKeep v p hp hroom
  | chanComplete v st d hopen hlast => exact .chanComplete v st d hopen hlast
  | chanKeep v st d hopen hmore => exact .chanKeep v st d hopen hmore
  | sysComComplete v c d hp hlast => exact .sysComComplete v c d hp hlast
  | sysComKeep v c d hp hmore => exact .sysComKeep v c d hp hmore
  | orphan v hp hr => exact .orphan v hp hr
  | channelStatus st => exact .channelStatus st
  | sox => exact .sox
  | awaitSysCom c => exact .awaitSysCom c
  | endSysEx p hp => exact .endSysEx p hp
  | unexpectedEox hidle => exact .unexpectedEox hidle
  | tuneRequest => exact .tuneRequest
  | undefinedCommon hb => exact .undefinedCommon hb
  | realTime hb => exact .realTime hb

/-- No result of a step depends on what was emitted before it (R28). -/
theorem feed_withOutput (b : Byte) (s : State) (o : Option Message) (k : List Message) :
    (feed b { s with out := o, sink := k }).registers = (feed b s).registers ∧
    (feed b { s with out := o, sink := k }).out = (feed b s).out := by
  have henv : feed b { s with out := o, sink := k } = _ := ((byteStep_feed b s).withEnv s.input o k).feed_eq
  rw [henv]
  exact ⟨rfl, rfl⟩

/-- The samples still to come pass through a step unread. -/
theorem feed_withInput (b : Byte) (s : State) (i : List PortIn) :
    feed b { s with input := i } = { feed b s with input := i } := by
  have henv : feed b { s with input := i } = _ := ((byteStep_feed b s).withEnv i s.out s.sink).feed_eq
  have hsink : (feed b s).out.elim s.sink (fun m => s.sink ++ [m]) = (feed b s).sink := by
    rw [feed_sink]; cases (feed b s).out <;> simp
  rw [henv, hsink]
  rfl

/-- A status byte of 0x80..0xF7 does not read `RS`. -/
theorem feed_status_setRs {b : Byte} (s : State) (r : Option ChanStatus)
    (hb : isChannelStatus b = true ∨ isSystemCommon b = true) : feed b (s.setRs r) = feed b s := by
  by_cases hend : b = 0xF7 ∧ s.sysexActive = true
  · obtain ⟨rfl, -⟩ := hend
    obtain ⟨p, hp, -⟩ | ⟨hidle, -⟩ := execEox_cases s
    · rw [feed_eox_of_sysEx (s := s.setRs r) hp, feed_eox_of_sysEx hp]; rfl
    · rw [feed_eox_of_inactive (s := s.setRs r) hidle, feed_eox_of_inactive hidle]; rfl
  · rw [feed_status_eq_fresh (s := s.setRs r) hb hend, feed_status_eq_fresh hb hend]; rfl

/-- A data byte reads `RS` only when nothing is pending (R110). -/
theorem feed_dataByte_setRs (v : Data7) {s : State} (r : Option ChanStatus) (hne : s.pend ≠ .empty) :
    feed (dataByte v) (s.setRs r) = (feed (dataByte v) s).setRs r := by
  cases hp : s.pend with
  | empty => exact absurd hp hne
  | chan st d =>
    rw [feed_dataByte_of_openGroup (s := s.setRs r) v (.inl hp), feed_dataByte_of_openGroup v (.inl hp)]
    unfold chanAppend; split <;> rfl
  | sysCom k d =>
    rw [feed_dataByte_of_sysCom (s := s.setRs r) v hp, feed_dataByte_of_sysCom v hp]
    unfold sysComAppend; split <;> rfl
  | sysEx p =>
    rw [feed_dataByte_of_sysEx (s := s.setRs r) v hp, feed_dataByte_of_sysEx v hp]
    cases hfull : bufferFull s.cfg p <;> simp [sysexAppend, hfull] <;> rfl

/-- The one reader of `RS` is a data byte with nothing pending (R11). -/
theorem feed_setRs {b : Byte} {s : State} (r : Option ChanStatus) (h : isDataByte b = false ∨ s.pend ≠ .empty) :
    (feed b (s.setRs r)).pend = (feed b s).pend ∧ (feed b (s.setRs r)).out = (feed b s).out := by
  obtain ⟨v, rfl⟩ | ⟨st, rfl⟩ | hsc | hrt := byte_cases b
  · rw [feed_dataByte_setRs v r (by simpa using h)]; exact ⟨rfl, rfl⟩
  · rw [feed_status_setRs s r (.inl (by simp))]; exact ⟨rfl, rfl⟩
  · rw [feed_status_setRs s r (.inr hsc)]; exact ⟨rfl, rfl⟩
  · rw [feed_realTime b _ hrt, feed_realTime b s hrt]; exact ⟨rfl, rfl⟩

end Sys2Proof.Machine
end

section
/-! PROOFS. The step boundary of R26, by what the ports present. -/

namespace Sys2Proof.Machine

/-- Every instruction answers a next state (R143). -/
theorem exec_next (i : Instr) (s : State) : ∃ t, exec i s = .next t := by
  cases i with
  | data v =>
    obtain ⟨_, -, h⟩ | ⟨_, _, -, h⟩ | ⟨_, _, -, h⟩ | ⟨_, -, -, h⟩ | ⟨-, -, h⟩ := execData_cases v s <;> exact ⟨_, h⟩
  | eox => obtain ⟨_, -, h⟩ | ⟨-, h⟩ := execEox_cases s <;> exact ⟨_, h⟩
  | _ => exact ⟨_, rfl⟩

/-- `exec` of a byte's instruction is `feed` of the byte. -/
theorem exec_decode (b : Byte) (s : State) : exec (decode b) s = .next (feed b s) := by
  obtain ⟨t, ht⟩ := exec_next (decode b) s
  rw [ht, feed_of_exec ht]

theorem exec_data (v : Data7) (s : State) : exec (.data v) s = .next (feed (dataByte v) s) := by
  rw [← decode_dataByte]
  exact exec_decode (dataByte v) s

/-- The `reset` port wins over the byte (R159). -/
theorem step_reset (s : State) (v : Bool) (b : Byte) (rest : List PortIn) :
    step { s with input := { reset := true, inValid := v, inByte := b } :: rest } =
      .next (State.applyReset { s with input := rest }) := rfl

/-- A presented byte is one `feed` (R26). -/
theorem step_present (s : State) (b : Byte) (rest : List PortIn) :
    step { s with input := { reset := false, inValid := true, inByte := b } :: rest } =
      .next (feed b { s with input := rest }) :=
  exec_decode b { s with input := rest }

/-- Everything a step boundary can do (R26). -/
theorem step_cases {s t : State} (h : step s = .next t) :
    t = s.takePort.applyReset ∨ (∃ b, t = feed b s.takePort) ∨ t = s.takePort.idle := by
  unfold step at h
  split at h
  · exact .inl (Host.Outcome.next.inj h).symm
  · split at h
    · exact .inr (.inl ⟨_, (feed_of_exec h).symm⟩)
    · exact .inr (.inr (Host.Outcome.next.inj h).symm)

end Sys2Proof.Machine
end

section
/-! PROOFS. The invariant of the two registers, part by part (R12, R14 to R16): what each part says, and that every byte
keeps it. -/

namespace Sys2Proof.Machine

theorem ChanKind.need_pos (k : ChanKind) : 0 < k.need := by cases k <;> decide
theorem ChanKind.need_le_two (k : ChanKind) : k.need ≤ 2 := by cases k <;> decide
theorem SysComKind.need_pos (k : SysComKind) : 0 < k.need := by cases k <;> decide
theorem SysComKind.need_le_two (k : SysComKind) : k.need ≤ 2 := by cases k <;> decide

theorem State.chanMatchesRs_iff (s : State) :
    s.chanMatchesRs = true ↔ ∀ st d, s.pend = .chan st d → s.rs = some st := by
  cases hp : s.pend <;> simp [State.chanMatchesRs, hp]

theorem State.systemHasNoRs_iff (s : State) :
    s.systemHasNoRs = true ↔ (∀ k d, s.pend = .sysCom k d → s.rs = none) ∧ ∀ p, s.pend = .sysEx p → s.rs = none := by
  cases hp : s.pend <;> simp [State.systemHasNoRs, hp]

theorem State.pendingIncomplete_iff (s : State) :
    s.pendingIncomplete = true ↔
      (∀ st d, s.pend = .chan st d → d.length < st.kind.need) ∧ ∀ k d, s.pend = .sysCom k d → d.length < k.need := by
  cases hp : s.pend <;> simp [State.pendingIncomplete, hp]

theorem State.payloadWithinCap_iff (s : State) :
    s.payloadWithinCap = true ↔ ∀ p cap, s.pend = .sysEx p → s.cfg.sysexCap = some cap → p.length ≤ cap := by
  cases hp : s.pend <;> cases hc : s.cfg.sysexCap <;> simp [State.payloadWithinCap, hp, hc]

theorem State.inv_iff (s : State) : s.inv = true ↔
    s.chanMatchesRs = true ∧ s.systemHasNoRs = true ∧ s.pendingIncomplete = true ∧ s.payloadWithinCap = true := by
  simp [State.inv, and_assoc]

/-- With nothing pending every part of the invariant holds. -/
theorem State.inv_of_pend_empty {s : State} (h : s.pend = .empty) : s.inv = true := by
  simp [State.inv_iff, State.chanMatchesRs_iff, State.systemHasNoRs_iff, State.pendingIncomplete_iff,
    State.payloadWithinCap_iff, h]

/-- Under R14 a data byte continues a message of the running status. -/
theorem State.OpenGroup.rs_eq {s : State} {st : ChanStatus} {d : List Data7} (h : s.OpenGroup st d)
    (hs : s.chanMatchesRs = true) : s.rs = some st := by
  obtain hp | ⟨-, hr, -⟩ := h
  · exact s.chanMatchesRs_iff.mp hs st d hp
  · exact hr

/-- Under R16 a message that a data byte continues still awaits data. -/
theorem State.OpenGroup.length_lt {s : State} {st : ChanStatus} {d : List Data7} (h : s.OpenGroup st d)
    (hs : s.pendingIncomplete = true) : d.length < st.kind.need := by
  obtain hp | ⟨-, -, rfl⟩ := h
  · exact (s.pendingIncomplete_iff.mp hs).1 st d hp
  · exact st.kind.need_pos

/-- Every byte keeps R14. -/
theorem feed_chanMatchesRs (b : Byte) (s : State) (hs : s.chanMatchesRs = true) : (feed b s).chanMatchesRs = true := by
  have hstep := byteStep_feed b s
  generalize feed b s = t at hstep ⊢
  cases hstep with
  | chanKeep v st d hopen _ => simp [State.chanMatchesRs_iff, hopen.rs_eq hs]
  | orphan | realTime => exact hs
  | _ => simp [State.chanMatchesRs_iff]

/-- Every byte keeps R15. -/
theorem feed_systemHasNoRs (b : Byte) (s : State) (hs : s.systemHasNoRs = true) : (feed b s).systemHasNoRs = true := by
  have hstep := byteStep_feed b s
  generalize feed b s = t at hstep ⊢
  obtain ⟨hcom, hex⟩ := s.systemHasNoRs_iff.mp hs
  cases hstep with
  | sysComKeep v k d hp _ => simp [State.systemHasNoRs_iff, hcom k d hp]
  | sysExKeep v p hp _ => simp [State.systemHasNoRs_iff, hex p hp]
  | orphan | realTime => exact hs
  | _ => simp [State.systemHasNoRs_iff]

/-- Every byte keeps R16. -/
theorem feed_pendingIncomplete (b : Byte) (s : State) (hs : s.pendingIncomplete = true) :
    (feed b s).pendingIncomplete = true := by
  have hstep := byteStep_feed b s
  generalize feed b s = t at hstep ⊢
  cases hstep with
  | chanKeep v st d hopen hmore =>
    have hlt := hopen.length_lt hs
    simp [State.pendingIncomplete_iff]; omega
  | sysComKeep v k d hp hmore =>
    have hlt := (s.pendingIncomplete_iff.mp hs).2 k d hp
    simp [State.pendingIncomplete_iff]; omega
  | channelStatus st => simp [State.pendingIncomplete_iff, st.kind.need_pos]
  | awaitSysCom k => simp [State.pendingIncomplete_iff, k.need_pos]
  | orphan | realTime => exact hs
  | _ => simp [State.pendingIncomplete_iff]

/-- A buffer that is not full has room for one more byte (R31). -/
theorem length_lt_of_bufferFull_eq_false {cfg : Config} {p : List Data7} {cap : Nat} (h : bufferFull cfg p = false)
    (hcap : cfg.sysexCap = some cap) : p.length < cap := by
  simpa [bufferFull, hcap] using h

/-- Every byte keeps the bound of R12. -/
theorem feed_payloadWithinCap (b : Byte) (s : State) (hs : s.payloadWithinCap = true) :
    (feed b s).payloadWithinCap = true := by
  have hstep := byteStep_feed b s
  generalize feed b s = t at hstep ⊢
  cases hstep with
  | sysExKeep v p _ hroom =>
    rw [State.payloadWithinCap_iff]
    rintro _ cap ⟨⟩ hcap
    simpa using length_lt_of_bufferFull_eq_false hroom hcap
  | sox =>
    rw [State.payloadWithinCap_iff]
    rintro _ cap ⟨⟩ -
    exact Nat.zero_le cap
  | orphan | realTime => exact hs
  | _ => simp [State.payloadWithinCap_iff]

/-- Every byte keeps the invariant. -/
theorem feed_inv (b : Byte) (s : State) (hs : s.inv = true) : (feed b s).inv = true := by
  obtain ⟨hchan, hsys, hmore, hcap⟩ := s.inv_iff.mp hs
  exact (feed b s).inv_iff.mpr ⟨feed_chanMatchesRs b s hchan, feed_systemHasNoRs b s hsys,
    feed_pendingIncomplete b s hmore, feed_payloadWithinCap b s hcap⟩

/-- Settles O49: reset empties `PEND`, a byte keeps each part, and an idle boundary touches no register. -/
theorem decoderInvariantEveryStep : Obligations.DecoderInvariantEveryStep := by
  intro s t hs ht
  obtain rfl | ⟨b, rfl⟩ | rfl := step_cases ht
  · exact State.inv_of_pend_empty rfl
  · exact feed_inv b s.takePort hs
  · exact hs

end Sys2Proof.Machine
end

section
/-! PROOFS. R22: the two states that no stream tells apart. -/

namespace Sys2Proof.Machine

/-- With no SysEx active a status byte of 0x80..0xF7 reads neither register. -/
theorem feed_status_congr {b : Byte} {s s' : State} (hb : isChannelStatus b = true ∨ isSystemCommon b = true)
    (hs : s.sysexActive = false) (hs' : s'.sysexActive = false)
    (hrest : { s with rs := none, pend := .empty } = { s' with rs := none, pend := .empty }) :
    feed b s = feed b s' := by
  rw [feed_status_eq_fresh hb (by simp [hs]), hrest, ← feed_status_eq_fresh hb (by simp [hs'])]

/-- From the two states of R22 a byte other than a Real-Time byte leads to the same state. -/
theorem feed_hidden_eq {b : Byte} (h : isRealTime b = false) (st : ChanStatus) (s : State) :
    feed b { s with rs := some st, pend := .empty } = feed b { s with rs := some st, pend := .chan st [] } := by
  have hstatus {b : Byte} (hb : isChannelStatus b = true ∨ isSystemCommon b = true) :
      feed b { s with rs := some st, pend := .empty } = feed b { s with rs := some st, pend := .chan st [] } :=
    feed_status_congr hb rfl rfl rfl
  obtain ⟨v, rfl⟩ | ⟨st', rfl⟩ | hsc | hrt := byte_cases b
  · rw [feed_dataByte_of_openGroup v (.inr ⟨rfl, rfl, rfl⟩), feed_dataByte_of_openGroup v (.inl rfl)]
    unfold chanAppend; split <;> rfl
  · exact hstatus (.inl (by simp))
  · exact hstatus (.inr hsc)
  · simp [hrt] at h

/-- The two states of R22 give the same outputs: a Real-Time byte leads to two such states again, any other byte to one
and the same state. -/
theorem trace_hidden_eq (w : List Byte) (st : ChanStatus) (s : State) :
    trace w { s with rs := some st, pend := .empty } = trace w { s with rs := some st, pend := .chan st [] } := by
  induction w generalizing s with
  | nil => rfl
  | cons b w ih =>
    cases hrt : isRealTime b with
    | false => simp only [trace, feed_hidden_eq hrt]
    | true =>
      simp only [trace, feed_realTime b _ hrt]
      exact congrArg _ (ih (s.emit (refRtMessage b)))

/-- Settles O52: the outputs by `trace_hidden_eq`; a status byte that ends no SysEx acts as on empty registers. -/
theorem hiddenStatesAreEquivalent : Obligations.HiddenStatesAreEquivalent := by
  refine ⟨trace_hidden_eq, fun st s h => by simp [State.registers] at h, fun b s hb hidle => ?_⟩
  exact feed_status_congr hb hidle rfl rfl

end Sys2Proof.Machine
end

section
/-! PROOFS. Runs of the machine over presented bytes (R26, R152). -/

namespace Sys2Proof.Machine

/-- One more step of a run, when the first step answers a next state. -/
theorem core_run_succ {s t : State} (n : Nat) (h : step s = .next t) : core.run (n + 1) s = core.run n t := by
  have hcore : core.step s = .next t := h
  simp [Host.Core.run, hcore]

/-- Settles O56, by induction on the byte list: the first step feeds the first byte, and the samples behind it pass
through that step unread. -/
theorem machineRunIsByteRun : Obligations.MachineRunIsByteRun := by
  intro w
  induction w with
  | nil => intro s rest; rfl
  | cons b w ih =>
    intro s rest
    calc core.run (w.length + 1) { s with input := samplesOf (b :: w) ++ rest }
        = core.run w.length (feed b { s with input := samplesOf w ++ rest }) := core_run_succ _ (step_present s b _)
      _ = core.run w.length { feed b s with input := samplesOf w ++ rest } := by rw [feed_withInput]
      _ = .next (feedAll w { feed b s with input := rest }) := ih (feed b s) rest
      _ = .next (feedAll (b :: w) { s with input := rest }) := by rw [← feed_withInput]; rfl

end Sys2Proof.Machine
end

section
/-! PROOFS. The messages a step can emit (R24, R25, R130). -/

namespace Sys2Proof.Machine

/-- A completed Note-On group is legal: velocity 0 has become a Note-Off (R118). -/
theorem decodeNoteOn_legal (c : Nibble) (n v : Data7) : (decodeNoteOn c n v).legal = true := by
  unfold decodeNoteOn
  split
  · rfl
  · simpa [Message.legal]

theorem decodeNoteOn_channel (c : Nibble) (n v : Data7) : (decodeNoteOn c n v).channel = some c := by
  unfold decodeNoteOn
  split <;> rfl

theorem decodeChan_legal (st : ChanStatus) (d : List Data7) : (decodeChan st d).legal = true := by
  obtain ⟨k, c⟩ := st
  cases k with
  | noteOn => exact decodeNoteOn_legal c _ _
  | _ => rfl

/-- The channel of a completed Channel message is that of its status (R25). -/
theorem decodeChan_channel (st : ChanStatus) (d : List Data7) : (decodeChan st d).channel = some st.chan := by
  obtain ⟨k, c⟩ := st
  cases k with
  | noteOn => exact decodeNoteOn_channel c _ _
  | _ => rfl

theorem decodeSysCom_legal (k : SysComKind) (d : List Data7) : (decodeSysCom k d).legal = true := by cases k <;> rfl

theorem decodeSysCom_channel (k : SysComKind) (d : List Data7) : (decodeSysCom k d).channel = none := by cases k <;> rfl

theorem refRtMessage_legal (b : Byte) : isRealTime b = true → (refRtMessage b).legal = true := by
  revert b; decide

theorem refRtMessage_channel (b : Byte) : (refRtMessage b).channel = none := by
  revert b; decide

/-- The channel nibble of a status byte is its low nibble (R50). -/
theorem ChanStatus.toByte_lowNibble (st : ChanStatus) : st.toByte.extractLsb' 0 4 = st.chan := by
  obtain ⟨k, c⟩ := st
  cases k <;> (revert c; decide)

/-- Every emitted message is legal (R25, R130). -/
theorem feed_out_legal {b : Byte} {s : State} {m : Message} (h : (feed b s).out = some m) : m.legal = true := by
  have hstep := byteStep_feed b s
  generalize feed b s = t at hstep h
  cases hstep with
  | sysExKeep | chanKeep | sysComKeep | channelStatus | sox | awaitSysCom => simp at h
  | overflow v | orphan v => obtain rfl := Option.some.inj h; simp [Message.legal]
  | chanComplete v st d => obtain rfl := Option.some.inj h; exact decodeChan_legal st _
  | sysComComplete v k d => obtain rfl := Option.some.inj h; exact decodeSysCom_legal k _
  | endSysEx | unexpectedEox | tuneRequest => obtain rfl := Option.some.inj h; rfl
  | undefinedCommon hb => obtain rfl := Option.some.inj h; obtain rfl | rfl | rfl := hb <;> rfl
  | realTime hb => obtain rfl := Option.some.inj h; exact refRtMessage_legal _ hb

/-- An emitted message with a channel completes the Channel message in progress, and has the channel of its status. -/
theorem feed_out_channel {b : Byte} {s : State} {m : Message} {c : Nibble} (h : (feed b s).out = some m)
    (hc : m.channel = some c) : ∃ st, s.activeStatus = some st ∧ st.chan = c := by
  have hstep := byteStep_feed b s
  generalize feed b s = t at hstep h
  cases hstep with
  | sysExKeep | chanKeep | sysComKeep | channelStatus | sox | awaitSysCom => simp at h
  | overflow | orphan | endSysEx | unexpectedEox | tuneRequest | undefinedCommon =>
    obtain rfl := Option.some.inj h; simp [Message.channel] at hc
  | chanComplete v st d hopen =>
    obtain rfl := Option.some.inj h
    exact ⟨st, hopen.activeStatus_eq, by simpa [decodeChan_channel] using hc⟩
  | sysComComplete v k d => obtain rfl := Option.some.inj h; simp [decodeSysCom_channel] at hc
  | realTime => obtain rfl := Option.some.inj h; simp [refRtMessage_channel] at hc

/-- Settles O44, by `feed_out_legal` and `feed_out_channel`. -/
theorem emittedMessagesAreLegal : Obligations.EmittedMessagesAreLegal := by
  refine ⟨fun b s m => feed_out_legal, fun b s m c h hc => ?_, fun c => ⟨by omega, rfl⟩, fun v => by omega⟩
  obtain ⟨st, hst, rfl⟩ := feed_out_channel h hc
  exact ⟨st, hst, st.toByte_lowNibble⟩

end Sys2Proof.Machine
end

section
/-! PROOFS. The obligations on the two registers (R11, R14 to R16) and on the frame. -/

namespace Sys2Proof.Machine

/-- The status bytes `RS` can hold are 0x80..0xEF (R11). -/
theorem ChanStatus.toByte_range (st : ChanStatus) : 0x80 ≤ st.toByte.toNat ∧ st.toByte.toNat ≤ 0xEF := by
  obtain ⟨k, c⟩ := st
  cases k <;> (revert c; decide)

/-- Settles O45: the writers of `RS` by `feed_rs`, its one reader by `feed_setRs`. -/
theorem runningStatusWritersAndReaders : Obligations.RunningStatusWritersAndReaders :=
  ⟨fun st => ⟨st.toByte_range.1, st.toByte_range.2, st.ofByte_toByte⟩, ChanStatus.toByte_surjective, feed_rs,
    fun _ => rfl, fun _ _ r h => feed_setRs r h⟩

/-- A `CHAN` shape is created by its status byte or from running status (R14). -/
theorem feed_chan_created {b : Byte} {s : State} {st : ChanStatus} {d : List Data7} (h : (feed b s).pend = .chan st d)
    (hnew : ∀ st' d', s.pend ≠ .chan st' d') :
    (b = st.toByte ∧ d = []) ∨ (s.pend = .empty ∧ s.rs = some st ∧ ∃ v, b = dataByte v ∧ d = [v]) := by
  have hstep := byteStep_feed b s
  generalize feed b s = t at hstep h
  cases hstep with
  | chanKeep v st' d' hopen =>
    obtain ⟨rfl, rfl⟩ := Pend.chan.inj h
    obtain hp | ⟨hp, hr, rfl⟩ := hopen
    · exact absurd hp (hnew _ _)
    · exact .inr ⟨hp, hr, v, rfl, rfl⟩
  | channelStatus st' =>
    obtain ⟨rfl, rfl⟩ := Pend.chan.inj h
    exact .inl ⟨rfl, rfl⟩
  | orphan | realTime => exact absurd h (hnew st d)
  | _ => simp at h

/-- A byte that changes `RS` replaces or clears `PEND` (R14). -/
theorem feed_pend_of_rs_ne {b : Byte} {s : State} (h : (feed b s).rs ≠ s.rs) :
    (feed b s).pend = .empty ∨ (feed b s).pend = .sysEx [] ∨ (∃ k, (feed b s).pend = .sysCom k []) ∨
      ∃ st, (feed b s).pend = .chan st [] := by
  have hstep := byteStep_feed b s
  generalize feed b s = t at hstep h ⊢
  cases hstep with
  | channelStatus st => exact .inr (.inr (.inr ⟨st, rfl⟩))
  | sox => exact .inr (.inl rfl)
  | awaitSysCom k => exact .inr (.inr (.inl ⟨k, rfl⟩))
  | endSysEx | unexpectedEox | tuneRequest | undefinedCommon => exact .inl rfl
  | _ => exact absurd rfl h

/-- Settles O46: that every byte keeps R14, how a `CHAN` shape is created, and what a change of `RS` does to `PEND`. -/
theorem pendingChannelMatchesRunningStatus : Obligations.PendingChannelMatchesRunningStatus :=
  ⟨feed_chanMatchesRs, fun _ _ _ _ => feed_chan_created, fun _ _ => feed_pend_of_rs_ne⟩

/-- A `SYSCOM` or `SYSEX` shape is created by a byte 0xF0..0xF7 (R15). -/
theorem isSystemCommon_of_system_created {b : Byte} {s : State}
    (h : (∃ k d, (feed b s).pend = .sysCom k d) ∨ ∃ p, (feed b s).pend = .sysEx p)
    (hcom : ∀ k d, s.pend ≠ .sysCom k d) (hex : ∀ p, s.pend ≠ .sysEx p) : isSystemCommon b = true := by
  have hstep := byteStep_feed b s
  generalize feed b s = t at hstep h
  cases hstep with
  | sysExKeep v p hp => exact absurd hp (hex p)
  | sysComKeep v k d hp => exact absurd hp (hcom k d)
  | sox => rfl
  | awaitSysCom k => exact k.toByte_isSystemCommon
  | orphan | realTime => simp [hcom, hex] at h
  | _ => simp at h

/-- A byte that sets `RS` is a Channel status byte (R15). -/
theorem feed_rs_set {b : Byte} {s : State} (hne : (feed b s).rs ≠ s.rs) (hset : (feed b s).rs ≠ none) :
    ∃ st : ChanStatus, b = st.toByte ∧ (feed b s).pend = .chan st [] := by
  have hstep := byteStep_feed b s
  generalize feed b s = t at hstep hne hset ⊢
  cases hstep with
  | channelStatus st => exact ⟨st, rfl, rfl⟩
  | sox | awaitSysCom | endSysEx | unexpectedEox | tuneRequest | undefinedCommon => exact absurd rfl hset
  | _ => exact absurd rfl hne

/-- Settles O47: that every byte keeps R15, and the creators of the System shapes, which `feed_rs` says clear `RS`. -/
theorem pendingSystemHasNoRunningStatus : Obligations.PendingSystemHasNoRunningStatus := by
  refine ⟨feed_systemHasNoRs, fun b s h hcom hex => ?_, fun _ _ => feed_rs_set⟩
  have hb := isSystemCommon_of_system_created h hcom hex
  exact ⟨hb, feed_rs_of_isSystemCommon s hb⟩

/-- Data that falls short of a count of at most 2 is empty or one byte of two (R16). -/
theorem incomplete_data_shape {n : Nat} {d : List Data7} (hn : n ≤ 2) (hlt : d.length < n) :
    n ≤ 2 ∧ (d = [] ∨ ∃ d1, d = [d1] ∧ n = 2) := by
  refine ⟨hn, ?_⟩
  match d with
  | [] => exact .inl rfl
  | [d1] => exact .inr ⟨d1, rfl, by simp at hlt; omega⟩
  | _ :: _ :: _ => simp at hlt; omega

/-- Settles O48: that every byte keeps R16, and the shape of data that falls short of its count. -/
theorem pendingIsNeverComplete : Obligations.PendingIsNeverComplete :=
  ⟨feed_pendingIncomplete,
    fun s st d hp hs => incomplete_data_shape st.kind.need_le_two ((s.pendingIncomplete_iff.mp hs).1 st d hp),
    fun s k d hp hs => incomplete_data_shape k.need_le_two ((s.pendingIncomplete_iff.mp hs).2 k d hp)⟩

/-- Settles O50, by the frame lemmas of `feed` and `step_reset`. -/
theorem frameOfEveryInstruction : Obligations.FrameOfEveryInstruction := by
  refine ⟨feed_frame, fun b s => feed_rs_of_isDataByte s, fun b s hb => ?_, feed_withOutput, step_reset⟩
  rw [feed_realTime b s hb]
  exact ⟨rfl, rfl⟩

end Sys2Proof.Machine
end

section
/-! PROOFS. The register-level encoding of R27. -/

namespace Sys2Proof.Machine

/-! ### The registers each field of the encoding leaves alone -/

@[simp] theorem Regs.withData_rsValid (r : Regs) (d : List Data7) : (r.withData d).rsValid = r.rsValid := by cases d <;> rfl
@[simp] theorem Regs.withData_rs (r : Regs) (d : List Data7) : (r.withData d).rs = r.rs := by cases d <;> rfl
@[simp] theorem Regs.withData_pk (r : Regs) (d : List Data7) : (r.withData d).pk = r.pk := by cases d <;> rfl
@[simp] theorem Regs.withData_ps (r : Regs) (d : List Data7) : (r.withData d).ps = r.ps := by cases d <;> rfl

@[simp] theorem Regs.withPend_rsValid (r : Regs) (p : Pend) : (r.withPend p).rsValid = r.rsValid := by
  cases p <;> simp [Regs.withPend]
@[simp] theorem Regs.withPend_rs (r : Regs) (p : Pend) : (r.withPend p).rs = r.rs := by
  cases p <;> simp [Regs.withPend]

/-! ### Reading back -/

/-- `have` and `d1` hold data of at most one byte. -/
theorem Regs.data_withData (r : Regs) {d : List Data7} (h : d.length ≤ 1) : (r.withData d).data = d := by
  match d with
  | [] => simp [Regs.withData, Regs.data]
  | [_] => simp [Regs.withData, Regs.data]
  | _ :: _ :: _ => simp at h

theorem Regs.readRs_withRs (r : Regs) (v : Option ChanStatus) : (r.withRs v).readRs = v := by
  cases v <;> simp [Regs.withRs, Regs.readRs]

theorem State.readRs_toRegs (any : Regs) (s : State) : (s.toRegs any).readRs = s.rs := by
  calc (s.toRegs any).readRs = (any.withRs s.rs).readRs := by simp [State.toRegs, Regs.readRs]
    _ = s.rs := any.readRs_withRs s.rs

/-- A pending fixed-length message holds at most one byte between steps (R16). -/
theorem State.pending_length_le_one {s : State} (hs : s.pendingIncomplete = true) :
    (∀ st d, s.pend = .chan st d → d.length ≤ 1) ∧ ∀ k d, s.pend = .sysCom k d → d.length ≤ 1 := by
  obtain ⟨hchan, hcom⟩ := s.pendingIncomplete_iff.mp hs
  constructor
  · intro st d hp
    have hlt := hchan st d hp
    have hle := st.kind.need_le_two
    omega
  · intro k d hp
    have hlt := hcom k d hp
    have hle := k.need_le_two
    omega

theorem State.readPend_toRegs (any : Regs) {s : State} (hs : s.pendingIncomplete = true) :
    (s.toRegs any).readPend = some s.pend := by
  obtain ⟨hchan, hcom⟩ := State.pending_length_le_one hs
  cases hp : s.pend with
  | empty => simp [State.toRegs, hp, Regs.withPend, Regs.readPend]
  | chan st d => simp [State.toRegs, hp, Regs.withPend, Regs.readPend, Regs.data_withData _ (hchan st d hp)]
  | sysCom k d => simp [State.toRegs, hp, Regs.withPend, Regs.readPend, Regs.data_withData _ (hcom k d hp)]
  | sysEx p => simp [State.toRegs, hp, Regs.withPend, Regs.readPend]

/-- `ps` duplicates `rs` whenever `pk = 1`, by R14 (R27). -/
theorem State.ps_toRegs (any : Regs) {s : State} (hs : s.chanMatchesRs = true) (hpk : (s.toRegs any).pk = 1) :
    (s.toRegs any).ps = (s.toRegs any).rs := by
  cases hp : s.pend with
  | chan st d =>
    have hr := s.chanMatchesRs_iff.mp hs st d hp
    simp [State.toRegs, hp, hr, Regs.withPend, Regs.withRs]
  | empty | sysCom | sysEx => simp [State.toRegs, hp, Regs.withPend] at hpk

/-- Settles O59: `RS` reads back in every state, `PEND` by R16, and `ps` is `rs` by R14. -/
theorem registerEncodingRoundTrip : Obligations.RegisterEncodingRoundTrip := by
  refine ⟨fun any s hs => ?_, fun any s hs hpk => ?_, fun any => ⟨rfl, rfl⟩⟩ <;>
    obtain ⟨hchan, -, hmore, -⟩ := s.inv_iff.mp hs
  · exact ⟨s.readRs_toRegs any, State.readPend_toRegs any hmore⟩
  · exact State.ps_toRegs any hchan hpk

end Sys2Proof.Machine
end

section
/-! PROOFS. Reset, the ports, the step with a presented byte, and several decoders (R23, R26, R29). -/

namespace Sys2Proof.Machine

/-- Settles O1: both registers are empty by the definition of reset, so the data byte meets the orphan rule. -/
theorem resetStateIsFresh : Obligations.ResetStateIsFresh :=
  ⟨fun _ => ⟨rfl, rfl, rfl⟩, rfl, fun _ => ⟨rfl, rfl⟩,
    fun v => (exec_data v _).trans (congrArg _ (feed_dataByte_of_fresh v rfl rfl))⟩

/-- A byte is the low 8 bits of itself as an opcode-table word. -/
theorem byteOfTableWord_toNat (b : Byte) : byteOfTableWord b.toNat = b := by simp [byteOfTableWord]

theorem decodeTableWord_toNat (b : Byte) : decodeTableWord 8 b.toNat = some (decode b) := by
  simp [decodeTableWord, byteOfTableWord_toNat, decodeBytes, b.isLt]

/-- A placed opcode-table word is the instruction of the very next step. -/
theorem step_withFetchWord (s : State) (b : Byte) : step (s.withFetchWord 8 b.toNat) = exec (decode b) s := by
  rw [State.withFetchWord, byteOfTableWord_toNat, exec_decode]
  exact step_present s b s.input

/-- Settles O3: a presented byte is what `step` decodes, whether it stands in the samples or was placed as a table word. -/
theorem stepRunsDecodedByte : Obligations.StepRunsDecodedByte :=
  ⟨fun _ _ _ => rfl, fun _ _ => ⟨rfl, rfl⟩, fun s b => ⟨step_withFetchWord s b, decodeTableWord_toNat b⟩, fun _ => rfl⟩

/-- Settles O4: reset and idle boundaries by what `step` does there, a presented byte by `step_present`. -/
theorem portBoundary : Obligations.PortBoundary :=
  ⟨fun s v b rest => ⟨_, step_reset s v b rest, rfl, rfl, rfl⟩, fun _ _ _ => rfl, step_present, fun _ _ _ => rfl,
    fun _ _ => rfl⟩

/-- Settles O60: the list positions are the decoders. -/
theorem decodersAreIndependent : Obligations.DecodersAreIndependent :=
  ⟨fun _ _ b ds h => List.getElem?_modify_ne (feed b) ds h.symm, fun k b ds => List.getElem?_modify_eq (feed b) k ds,
    fun _ _ b b' ds h => List.modify_modify_ne (feed b) (feed b') ds h.symm⟩

end Sys2Proof.Machine
end

section
/-! PROOFS. Runs over byte streams, cut in two: the state, the output and the Sink (R7, R40, R152). -/

namespace Sys2Proof.Machine

@[simp] theorem feedAll_nil (s : State) : feedAll [] s = s := rfl
@[simp] theorem feedAll_cons (b : Byte) (w : List Byte) (s : State) : feedAll (b :: w) s = feedAll w (feed b s) := rfl
@[simp] theorem feedAll_append (u w : List Byte) (s : State) : feedAll (u ++ w) s = feedAll w (feedAll u s) :=
  List.foldl_append

theorem trace_append (u w : List Byte) (s : State) : trace (u ++ w) s = trace u s ++ trace w (feedAll u s) := by
  induction u generalizing s with
  | nil => rfl
  | cons b u ih => exact congrArg _ (ih (feed b s))

@[simp] theorem trace_length (w : List Byte) (s : State) : (trace w s).length = w.length := by
  induction w generalizing s with
  | nil => rfl
  | cons b w ih => exact congrArg _ (ih (feed b s))

@[simp] theorem emitted_nil (s : State) : emitted [] s = [] := rfl

theorem emitted_append (u w : List Byte) (s : State) : emitted (u ++ w) s = emitted u s ++ emitted w (feedAll u s) := by
  simp only [emitted, trace_append, List.filterMap_append]

/-- A byte contributes the output of its step, before those of the bytes after it. -/
theorem emitted_cons (b : Byte) (w : List Byte) (s : State) :
    emitted (b :: w) s = (feed b s).out.toList ++ emitted w (feed b s) := by
  cases hout : (feed b s).out <;> simp [emitted, trace, hout]

/-- The Sink takes the output of the run, in order (R40, R157). -/
theorem feedAll_sink (w : List Byte) (s : State) : (feedAll w s).sink = s.sink ++ emitted w s := by
  induction w generalizing s with
  | nil => simp
  | cons b w ih => rw [feedAll_cons, ih, feed_sink, emitted_cons, List.append_assoc]

/-- Settles O55: `emitted_append`, `trace_length` and `feedAll_sink`; the example by running it. -/
theorem outputOrderIsArrivalOrder : Obligations.OutputOrderIsArrivalOrder :=
  ⟨emitted_append, trace_length, feedAll_sink, fun _ => rfl⟩

end Sys2Proof.Machine
end

section
/-! PROOFS. Real-Time bytes leave everything but the output alone (R43, R70 to R76). -/

namespace Sys2Proof.Machine

/-- Settles O27: `feed_realTime` for every byte of the class; each of the six instructions is one `emit`; the two groups by
running them. -/
theorem realTimeTouchesNothing : Obligations.RealTimeTouchesNothing := by
  refine ⟨fun b s hb => ?_, fun _ => rfl, fun _ => rfl, fun _ => rfl, fun _ => rfl, fun _ => rfl, fun _ => rfl,
    rfl, rfl, rfl, rfl, rfl, rfl, fun _ => rfl, fun _ => rfl⟩
  rw [exec_decode, feed_realTime b s hb]
  rfl

end Sys2Proof.Machine
end

section
/-! PROOFS. The SysEx buffer: what each byte does to it, and when it is emitted (R30 to R32). -/

namespace Sys2Proof.Machine

theorem State.payload_eq_some_iff (s : State) (p : List Data7) : s.payload = some p ↔ s.pend = .sysEx p := by
  cases hp : s.pend <;> simp [State.payload, hp]

@[simp] theorem State.emit_payload (m : Message) (s : State) : (s.emit m).payload = s.payload := rfl
@[simp] theorem State.silent_payload (s : State) : s.silent.payload = s.payload := rfl
@[simp] theorem State.openSysEx_payload (s : State) : s.openSysEx.payload = some [] := rfl

/-- The value of a data byte is the one it was made from (R45). -/
@[simp] theorem dataByte_value (v : Data7) : (dataByte v).extractLsb' 0 7 = v := by
  revert v; decide

/-- Only a byte of the class System Common starts a SysEx. -/
theorem ne_sox_of_isSystemCommon_eq_false {b : Byte} (h : isSystemCommon b = false) : b ≠ 0xF0 := by
  rintro rfl
  exact absurd h (by decide)

/-- The buffer after a byte, in every state: the four operations of R32. -/
theorem feed_payload (b : Byte) (s : State) : (feed b s).payload =
    if b = 0xF0 then some []
    else if isRealTime b = true then s.payload
    else if isDataByte b = true then
      s.payload.bind fun p => if bufferFull s.cfg p = true then none else some (p ++ [b.extractLsb' 0 7])
    else none := by
  have hdata (v : Data7) : dataByte v ≠ 0xF0 := ne_sox_of_isSystemCommon_eq_false (by simp)
  have hstep := byteStep_feed b s
  generalize feed b s = t at hstep ⊢
  cases hstep with
  | overflow v p hp hfull => rw [if_neg (hdata v)]; simp [State.payload, hp, hfull]
  | sysExKeep v p hp hroom => rw [if_neg (hdata v)]; simp [State.payload, hp, hroom]
  | chanComplete v st d hopen | chanKeep v st d hopen =>
    rw [if_neg (hdata v)]
    obtain hp | ⟨hp, -⟩ := hopen <;> simp [State.payload, hp]
  | sysComComplete v k d hp | sysComKeep v k d hp | orphan v hp => rw [if_neg (hdata v)]; simp [State.payload, hp]
  | channelStatus st => rw [if_neg (ne_sox_of_isSystemCommon_eq_false (by simp))]; simp [State.payload]
  | sox | endSysEx | unexpectedEox | tuneRequest => rfl
  | awaitSysCom k => cases k <;> rfl
  | undefinedCommon hb => obtain rfl | rfl | rfl := hb <;> rfl
  | realTime hb =>
    rw [if_neg (ne_sox_of_isSystemCommon_eq_false (isRealTime_class b hb).2.2), if_pos hb, State.emit_payload]

theorem decodeChan_ne_sysEx (st : ChanStatus) (d p : List Data7) : decodeChan st d ≠ .sysEx p := by
  intro h
  have hchan := decodeChan_channel st d
  simp [h, Message.channel] at hchan

theorem decodeSysCom_ne_sysEx (k : SysComKind) (d p : List Data7) : decodeSysCom k d ≠ .sysEx p := by
  cases k <;> simp [decodeSysCom]

theorem refRtMessage_ne_sysEx (b : Byte) (p : List Data7) : refRtMessage b ≠ .sysEx p := by
  unfold refRtMessage
  split_ifs <;> simp

/-- A SysEx is emitted exactly when 0xF7 reads the buffer whole (R32, R82). -/
theorem feed_out_sysEx_iff (b : Byte) (s : State) (p : List Data7) :
    (feed b s).out = some (.sysEx p) ↔ b = 0xF7 ∧ s.payload = some p := by
  rw [s.payload_eq_some_iff]
  constructor
  · intro h
    have hstep := byteStep_feed b s
    generalize feed b s = t at hstep h
    cases hstep with
    | endSysEx q hp =>
      obtain rfl : q = p := by simpa using h
      exact ⟨rfl, hp⟩
    | chanComplete v st d => simp [decodeChan_ne_sysEx] at h
    | sysComComplete v k d => simp [decodeSysCom_ne_sysEx] at h
    | realTime hb => simp [refRtMessage_ne_sysEx] at h
    | _ => simp at h
  · rintro ⟨rfl, hp⟩
    rw [feed_eox_of_sysEx hp, State.emit_out]

/-- Settles O22: the buffer by `feed_payload`, its release by `feed_out_sysEx_iff`. -/
theorem fourBufferOperations : Obligations.FourBufferOperations := by
  refine ⟨fun b s hs => ?_, fun b s p hs => ?_, feed_out_sysEx_iff, fun _ => ⟨rfl, rfl⟩⟩
  · simp [feed_payload, hs]
  · rw [feed_payload, hs, Option.bind_some]
    cases bufferFull s.cfg p <;> simp

end Sys2Proof.Machine
end

section
/-! PROOFS. The SysEx frame 0xF0 … 0xF7: what it emits, and that nothing else emits a SysEx (R34, R84). -/

namespace Sys2Proof.Machine

/-! ### The bytes between the ends of the frame -/

@[simp] theorem dataOf_nil : dataOf [] = [] := rfl

@[simp] theorem dataOf_append (u w : List Byte) : dataOf (u ++ w) = dataOf u ++ dataOf w := by simp [dataOf]

theorem dataOf_cons_of_isDataByte {b : Byte} (h : isDataByte b = true) (w : List Byte) :
    dataOf (b :: w) = b.extractLsb' 0 7 :: dataOf w := by simp [dataOf, h]

theorem dataOf_cons_of_isRealTime {b : Byte} (h : isRealTime b = true) (w : List Byte) : dataOf (b :: w) = dataOf w := by
  simp [dataOf, isRealTime_class b h]

theorem dataOrRealTime_cons (b : Byte) (w : List Byte) : dataOrRealTime (b :: w) = true ↔
    (isDataByte b = true ∨ isRealTime b = true) ∧ dataOrRealTime w = true := by simp [dataOrRealTime]

theorem dataOrRealTime_append (u w : List Byte) : dataOrRealTime (u ++ w) = true ↔
    dataOrRealTime u = true ∧ dataOrRealTime w = true := by simp [dataOrRealTime]

/-- Where more than the payload fits, the buffer is not full (R31). -/
theorem bufferFull_eq_false_of_bufferFits {cfg : Config} {p : List Data7} {n : Nat} (h : bufferFits cfg n = true)
    (hlt : p.length < n) : bufferFull cfg p = false := by
  cases hcap : cfg.sysexCap with
  | none => simp [bufferFull, hcap]
  | some cap =>
    have hn : n ≤ cap := by simpa [bufferFits, hcap] using h
    simpa [bufferFull, hcap] using hlt.trans_le hn

/-- While a SysEx is active, data bytes that fit and Real-Time bytes append the data in order and emit the Real-Time
messages only. -/
theorem feedAll_of_dataOrRealTime (w : List Byte) {s : State} {q : List Data7} (hs : s.pend = .sysEx q)
    (hw : dataOrRealTime w = true) (hfit : bufferFits s.cfg (q ++ dataOf w).length = true) :
    (feedAll w s).pend = .sysEx (q ++ dataOf w) ∧ emitted w s = (w.filter isRealTime).map refRtMessage := by
  induction w generalizing s q with
  | nil => simp [hs]
  | cons b w ih =>
    obtain ⟨hb | hb, hrest⟩ := (dataOrRealTime_cons b w).mp hw
    · obtain ⟨v, rfl⟩ : ∃ v, b = dataByte v := ⟨_, (dataByte_extractLsb' b hb).symm⟩
      rw [dataOf_cons_of_isDataByte hb, dataByte_value] at hfit ⊢
      have hroom : bufferFull s.cfg q = false := bufferFull_eq_false_of_bufferFits hfit (by simp)
      have hkeep : feed (dataByte v) s = (s.setPend (.sysEx (q ++ [v]))).silent :=
        (ByteStep.sysExKeep v q hs hroom).feed_eq
      obtain ⟨hpend, hemit⟩ := ih (s := feed (dataByte v) s) (q := q ++ [v]) (by simp [hkeep]) hrest (by simpa using hfit)
      exact ⟨by simpa using hpend, by rw [emitted_cons, hemit]; simp [hkeep]⟩
    · rw [dataOf_cons_of_isRealTime hb] at hfit ⊢
      have hemits := feed_realTime b s hb
      obtain ⟨hpend, hemit⟩ := ih (s := feed b s) (q := q) (by simp [hemits, hs]) hrest (by simpa using hfit)
      exact ⟨hpend, by rw [emitted_cons, hemit]; simp [hemits, hb]⟩

/-! ### The whole frame -/

/-- A frame whose data fit emits the Real-Time messages and then the SysEx of the data, and leaves both registers empty. -/
theorem sysExFrame_run (w : List Byte) (s : State) (hw : dataOrRealTime w = true)
    (hfit : bufferFits s.cfg (dataOf w).length = true) :
    emitted (0xF0 :: w ++ [0xF7]) s = (w.filter isRealTime).map refRtMessage ++ [.sysEx (dataOf w)] ∧
    (feedAll (0xF0 :: w ++ [0xF7]) s).registers = (none, .empty) := by
  obtain ⟨hpend, hemit⟩ := feedAll_of_dataOrRealTime w (s := feed 0xF0 s) (q := []) rfl hw (by simpa using hfit)
  have hend := feed_eox_of_sysEx hpend
  constructor
  · rw [List.cons_append, emitted_cons, emitted_append, hemit, emitted_cons, hend, feed_sox]
    simp
  · rw [feedAll_append, feedAll_cons, feedAll_cons, feedAll_nil, hend]
    rfl

/-- A buffer that a run created holds the data bytes since its last 0xF0, which only data and Real-Time bytes follow. -/
theorem feedAll_payload_origin (w : List Byte) {s : State} (hs : s.payload = none) {p : List Data7}
    (h : (feedAll w s).payload = some p) : ∃ u v, w = u ++ 0xF0 :: v ∧ dataOrRealTime v = true ∧ p = dataOf v := by
  induction w using List.reverseRecOn generalizing p with
  | nil => simp [hs] at h
  | append_singleton w b ih =>
    rw [feedAll_append, feedAll_cons, feedAll_nil, feed_payload] at h
    split_ifs at h with hsox hrt hdata
    · exact ⟨w, [], by rw [hsox], rfl, (Option.some.inj h).symm⟩
    · obtain ⟨u, v, rfl, hv, rfl⟩ := ih h
      exact ⟨u, v ++ [b], by simp, (dataOrRealTime_append v [b]).mpr ⟨hv, by simp [dataOrRealTime, hrt]⟩,
        by simp [dataOf_cons_of_isRealTime hrt]⟩
    · obtain ⟨q, hq, happ⟩ := Option.bind_eq_some_iff.mp h
      obtain ⟨u, v, rfl, hv, rfl⟩ := ih hq
      obtain ⟨-, rfl⟩ : _ ∧ dataOf v ++ [b.extractLsb' 0 7] = p := by simpa using happ
      exact ⟨u, v ++ [b], by simp, (dataOrRealTime_append v [b]).mpr ⟨hv, by simp [dataOrRealTime, hdata]⟩,
        by simp [dataOf_cons_of_isDataByte hdata]⟩

/-! ### The other ends of a SysEx -/

/-- A status byte 0x80..0xF6 acts as if no SysEx had been pending (R133). -/
theorem feed_status_drops_sysEx {b : Byte} (s : State) (p : List Data7)
    (hb : isChannelStatus b = true ∨ isSystemCommon b = true) (hne : b ≠ 0xF7) :
    feed b { s with pend := .sysEx p } = feed b { s with pend := .empty } := by
  rw [feed_status_eq_fresh hb fun h => hne h.1, feed_status_eq_fresh (s := { s with pend := .empty }) hb fun h => hne h.1]

/-- A data byte on a buffer of exactly `SYSEX_CAP` bytes is reported, and the SysEx is gone (R112). -/
theorem feed_dataByte_of_cap_reached (v : Data7) {s : State} {p : List Data7} (hp : s.pend = .sysEx p)
    (hcap : s.cfg.sysexCap = some p.length) :
    feed (dataByte v) s = (s.setPend .empty).emit (.malformed (dataByte v) .sysexOverflow) :=
  (ByteStep.overflow v p hp (by simp [bufferFull, hcap])).feed_eq

/-- Settles O23: the frame by `sysExFrame_run`; conversely the 0xF7 by `feed_out_sysEx_iff` and the frame before it by
`feedAll_payload_origin`. -/
theorem sysExIsExactlyItsFrame : Obligations.SysExIsExactlyItsFrame := by
  refine ⟨fun w s hw hfit => ?_, fun w b s p hs hout => ?_, fun b s p => feed_status_drops_sysEx s p,
    fun _ _ => ⟨rfl, rfl⟩, fun v s p hcap => ?_, fun s p hinv hp => ?_⟩
  · obtain ⟨hemit, hregs⟩ := sysExFrame_run w s hw hfit
    obtain ⟨hrs, hpend⟩ := Prod.mk.inj hregs
    exact ⟨hemit, hregs, fun v => by rw [feed_dataByte_of_fresh v hpend hrs]; rfl⟩
  · obtain ⟨hb, hbuf⟩ := (feed_out_sysEx_iff b (feedAll w s) p).mp hout
    exact ⟨hb, feedAll_payload_origin w hs hbuf⟩
  · rw [feed_dataByte_of_cap_reached v (s := { s with pend := .sysEx p }) rfl hcap]
    exact ⟨rfl, rfl⟩
  · obtain ⟨-, hsys, -, -⟩ := s.inv_iff.mp hinv
    exact (s.systemHasNoRs_iff.mp hsys).2 p ((s.payload_eq_some_iff p).mp hp)

end Sys2Proof.Machine
end

section
/-! PROOFS. Decoding and encoding: each byte is one instruction and each instruction one byte (R45, R54, R59). -/

namespace Sys2Proof.Machine

theorem encode_status (k : ChanKind) (c : Nibble) : encode (k.status c) = (⟨k, c⟩ : ChanStatus).toByte := by
  cases k <;> rfl

/-- The byte of an instruction decodes to that instruction, with its operand. -/
@[simp] theorem decode_encode (i : Instr) : decode (encode i) = i := by
  cases i with
  | data v => exact decode_dataByte v
  | stNoteOff c => exact decode_chanStatus ⟨.noteOff, c⟩
  | stNoteOn c => exact decode_chanStatus ⟨.noteOn, c⟩
  | stPolyPressure c => exact decode_chanStatus ⟨.polyPressure, c⟩
  | stControlChange c => exact decode_chanStatus ⟨.controlChange, c⟩
  | stProgramChange c => exact decode_chanStatus ⟨.programChange, c⟩
  | stChannelPressure c => exact decode_chanStatus ⟨.channelPressure, c⟩
  | stPitchBend c => exact decode_chanStatus ⟨.pitchBend, c⟩
  | _ => rfl

/-- No two bytes decode to the same instruction: encoding gives the byte back. -/
@[simp] theorem encode_decode (b : Byte) : encode (decode b) = b := by
  have hsystem : ∀ b : Byte, isSystemCommon b = true ∨ isRealTime b = true → encode (decode b) = b := by decide
  obtain ⟨v, rfl⟩ | ⟨st, rfl⟩ | hsc | hrt := byte_cases b
  · rw [decode_dataByte]; rfl
  · rw [decode_chanStatus, encode_status]
  · exact hsystem b (.inl hsc)
  · exact hsystem b (.inr hrt)

/-- The byte list of a list of instructions is one byte for each (R45). -/
theorem encodeStream_eq_map (is : List Instr) : encodeStream is = is.map encode := by
  induction is with
  | nil => rfl
  | cons i is ih => exact congrArg _ ih

/-- Settles O8: instruction by instruction `decode_encode`, byte by byte `encode_decode`. -/
theorem decodeInvertsEncodeOnStreams : Obligations.DecodeInvertsEncodeOnStreams := by
  refine ⟨fun is => ?_, fun i rest => congrArg (fun j => Except.ok (j, rest)) (decode_encode i), fun w => ?_⟩
  · rw [encodeStream_eq_map, decodeStream, List.map_map]
    exact List.map_id'' decode_encode is
  · rw [encodeStream_eq_map, decodeStream, List.map_map]
    exact List.map_id'' encode_decode w

/-- Settles O7: the two overlays are the bytes of `decode_encode`. -/
theorem everyByteIsOneInstruction : Obligations.EveryByteIsOneInstruction :=
  ⟨fun _ => rfl, fun _ _ => rfl, encode_decode, fun v => decode_encode (.data v), fun c =>
    ⟨decode_encode (.stNoteOff c), decode_encode (.stNoteOn c), decode_encode (.stPolyPressure c),
      decode_encode (.stControlChange c), decode_encode (.stProgramChange c), decode_encode (.stChannelPressure c),
      decode_encode (.stPitchBend c)⟩⟩

/-- Settles O6: each byte is the `encode` of the instruction on its right. -/
theorem writtenOutBytesDecode : Obligations.WrittenOutBytesDecode :=
  ⟨decode_encode (.data 0x3C), decode_encode (.stNoteOff 5), decode_encode (.stNoteOn 0),
    decode_encode (.stProgramChange 15), decode_encode (.stPitchBend 2), decode_encode .sox, decode_encode .eox,
    decode_encode .stSongPosition, decode_encode .tuneRequest, decode_encode .undefF4, decode_encode .timingClock,
    decode_encode .undefFD, decode_encode .systemReset⟩

/-- The row family `RowMatch` for every instruction (R54). -/
theorem rowMatch (i : Instr) : Laws.RowMatch.Statement i := by
  cases i with
  | data v => exact Laws.RowMatch.data v
  | stNoteOff c => exact Laws.RowMatch.stNoteOff c
  | stNoteOn c => exact Laws.RowMatch.stNoteOn c
  | stPolyPressure c => exact Laws.RowMatch.stPolyPressure c
  | stControlChange c => exact Laws.RowMatch.stControlChange c
  | stProgramChange c => exact Laws.RowMatch.stProgramChange c
  | stChannelPressure c => exact Laws.RowMatch.stChannelPressure c
  | stPitchBend c => exact Laws.RowMatch.stPitchBend c
  | sox => exact Laws.RowMatch.sox
  | undefF1 => exact Laws.RowMatch.undefF1
  | stSongPosition => exact Laws.RowMatch.stSongPosition
  | stSongSelect => exact Laws.RowMatch.stSongSelect
  | undefF4 => exact Laws.RowMatch.undefF4
  | undefF5 => exact Laws.RowMatch.undefF5
  | tuneRequest => exact Laws.RowMatch.tuneRequest
  | eox => exact Laws.RowMatch.eox
  | timingClock => exact Laws.RowMatch.timingClock
  | undefF9 => exact Laws.RowMatch.undefF9
  | start => exact Laws.RowMatch.start
  | continue_ => exact Laws.RowMatch.continue_
  | stop => exact Laws.RowMatch.stop
  | undefFD => exact Laws.RowMatch.undefFD
  | activeSensing => exact Laws.RowMatch.activeSensing
  | systemReset => exact Laws.RowMatch.systemReset

/-- The numbers below `m * n`, `n` at a time. -/
theorem range_mul (m n : Nat) :
    List.range (m * n) = (List.range m).flatMap fun h => (List.range n).map fun l => h * n + l := by
  induction m with
  | zero => simp
  | succ m ih => simp [Nat.succ_mul, List.range_add, List.range_succ, ih]

/-- Settles O9: the row of a byte by `rowMatch` at the instruction it decodes to; the numbers of values by counting them,
high nibble by high nibble. -/
theorem opcodeTableRowsSelect : Obligations.OpcodeTableRowsSelect := by
  refine ⟨rfl, fun b => ?_, ?_⟩
  · obtain ⟨-, hrow⟩ := rowMatch (decode b)
    rwa [encode_decode] at hrow
  · rw [show 256 = 16 * 16 from rfl, range_mul]
    simp only [List.countP_flatMap]
    decide

/-- Settles O10, by running through the 256 bytes. -/
theorem byteClassesPartition : Obligations.ByteClassesPartition := by
  unfold Obligations.ByteClassesPartition
  decide

end Sys2Proof.Machine
end

section
/-! PROOFS. `need_of` and `decode` of a held status are the tables of R49 and R115 on its byte. -/

namespace Sys2Proof.Machine

/-- `need_of` of a Channel status byte is the count of the type it holds (R49). -/
@[simp] theorem refNeedOf_chanStatus (st : ChanStatus) : refNeedOf st.toByte = st.kind.need := by
  obtain ⟨k, c⟩ := st
  cases k <;> (revert c; decide)

@[simp] theorem refNeedOf_sysComKind (k : SysComKind) : refNeedOf k.toByte = k.need := by
  cases k <;> rfl

/-- The table of R49 for the Channel status bytes. -/
theorem refNeedOf_of_isChannelStatus (b : Byte) : isChannelStatus b = true →
    refNeedOf b = if b.extractLsb' 4 4 = 0xC ∨ b.extractLsb' 4 4 = 0xD then 1 else 2 := by
  revert b; decide

/-- A Real-Time byte awaits no data (R49). -/
theorem refNeedOf_of_isRealTime (b : Byte) : isRealTime b = true → refNeedOf b = 0 := by
  revert b; decide

/-- With no bound on the buffer any number of data bytes accumulate in the payload (R111). -/
theorem feedAll_dataBytes_of_sysEx (vs : List Data7) {s : State} {p : List Data7} (hcap : s.cfg.sysexCap = none)
    (hp : s.pend = .sysEx p) : (feedAll (vs.map dataByte) s).registers = (s.rs, .sysEx (p ++ vs)) := by
  induction vs generalizing s p with
  | nil => simp [State.registers, hp]
  | cons v vs ih =>
    have hkeep : feed (dataByte v) s = (s.setPend (.sysEx (p ++ [v]))).silent :=
      (ByteStep.sysExKeep v p hp (by simp [bufferFull, hcap])).feed_eq
    rw [List.map_cons, feedAll_cons, hkeep]
    simpa using ih (s := (s.setPend (.sysEx (p ++ [v]))).silent) hcap rfl

/-- Settles O11: the table by its values, the held types by `refNeedOf_chanStatus` and `refNeedOf_sysComKind`, the count
that 0xF0 lacks by `feedAll_dataBytes_of_sysEx`. -/
theorem needOfFollowsTable : Obligations.NeedOfFollowsTable :=
  ⟨refNeedOf_of_isChannelStatus, rfl, rfl, rfl, rfl, rfl, rfl, rfl, refNeedOf_of_isRealTime,
    fun st => ⟨(refNeedOf_chanStatus st).symm, st.kind.need_pos.ne'⟩, fun k => (refNeedOf_sysComKind k).symm,
    fun vs s hcap => feedAll_dataBytes_of_sysEx vs (s := feed 0xF0 s) hcap rfl⟩

@[simp] theorem ChanStatus.toByte_highNibble (st : ChanStatus) : st.toByte.extractLsb' 4 4 = st.kind.nibble := by
  obtain ⟨k, c⟩ := st
  cases k <;> (revert c; decide)

/-- `decode` of a complete Channel message is the table of R115 on its status byte. -/
theorem refDecode_chanStatus (st : ChanStatus) (d : List Data7) (h : d.length = st.kind.need) :
    refDecode st.toByte d = some (decodeChan st d) := by
  obtain ⟨k, c⟩ := st
  have hlow := ChanStatus.toByte_lowNibble ⟨k, c⟩
  have hhigh := ChanStatus.toByte_highNibble ⟨k, c⟩
  cases k with
  | programChange | channelPressure =>
    obtain ⟨v, rfl⟩ := List.length_eq_one_iff.mp h
    simp [refDecode, hlow, hhigh, ChanKind.nibble, decodeChan, first]
  | noteOn =>
    obtain ⟨n, v, rfl⟩ := List.length_eq_two.mp h
    simp [refDecode, hlow, hhigh, ChanKind.nibble, decodeChan, first, second, decodeNoteOn, apply_ite some]
  | noteOff | polyPressure | controlChange | pitchBend =>
    obtain ⟨n, v, rfl⟩ := List.length_eq_two.mp h
    simp [refDecode, hlow, hhigh, ChanKind.nibble, decodeChan, first, second]

/-- `decode` of a complete System Common message is the table of R115 on its status byte. -/
theorem refDecode_sysComKind (k : SysComKind) (d : List Data7) (h : d.length = k.need) :
    refDecode k.toByte d = some (decodeSysCom k d) := by
  cases k with
  | songPosition => obtain ⟨l, m, rfl⟩ := List.length_eq_two.mp h; rfl
  | songSelect => obtain ⟨n, rfl⟩ := List.length_eq_one_iff.mp h; rfl

end Sys2Proof.Machine
end

section
/-! PROOFS. The machine is the spec's pseudocode on raw status bytes and stored counts (R48). -/

namespace Sys2Proof.Machine

/-! ### The pseudocode, class by class -/

theorem refFeed_dataByte (cap : Option Nat) (r : RefState) (v : Data7) :
    refFeed cap (dataByte v) r = refDataByte cap (dataByte v) r := by
  have hbranch : ∀ v : Data7, (dataByte v).extractLsb' 3 5 ≠ 0b11111 ∧ dataByte v ≠ 0xF0 ∧ dataByte v ≠ 0xF7 ∧
      (dataByte v).extractLsb' 4 4 ≠ 0xF ∧ (dataByte v).extractLsb' 7 1 ≠ 1 := by decide
  obtain ⟨hrt, hsox, heox, hsys, hst⟩ := hbranch v
  rw [refFeed, if_neg hrt, if_neg hsox, if_neg heox, if_neg hsys, if_neg hst]

theorem refFeed_chanStatus (cap : Option Nat) (r : RefState) (st : ChanStatus) :
    refFeed cap st.toByte r = ({ rs := some st.toByte, pend := .chan st.toByte st.kind.need [] }, none) := by
  have hbranch : ∀ b : Byte, isChannelStatus b = true → b.extractLsb' 3 5 ≠ 0b11111 ∧ b ≠ 0xF0 ∧ b ≠ 0xF7 ∧
      b.extractLsb' 4 4 ≠ 0xF ∧ b.extractLsb' 7 1 = 1 := by decide
  obtain ⟨hrt, hsox, heox, hsys, hst⟩ := hbranch st.toByte (by simp)
  rw [refFeed, if_neg hrt, if_neg hsox, if_neg heox, if_neg hsys, if_pos hst, refNeedOf_chanStatus]

theorem refFeed_realTime (cap : Option Nat) (r : RefState) {b : Byte} (h : isRealTime b = true) :
    refFeed cap b r = (r, some (refRtMessage b)) :=
  if_pos (by simpa [isRealTime] using h)

theorem refFeed_sysComKind (cap : Option Nat) (r : RefState) (k : SysComKind) :
    refFeed cap k.toByte r = ({ rs := none, pend := .sysCom k.toByte k.need [] }, none) := by
  cases k <;> rfl

/-! ### A data byte, by the shape that is pending -/

/-- A data byte that continues a Channel message appends to it, pending or synthesised (R113, R114). -/
theorem refDataByte_of_openGroup (cap : Option Nat) {s : State} {st : ChanStatus} {d : List Data7} (v : Data7)
    (h : s.OpenGroup st d) : refDataByte cap (dataByte v) s.toRef =
      refFixedAppend (.chan st.toByte st.kind.need) st.toByte st.kind.need d v s.toRef := by
  obtain hp | ⟨hp, hr, rfl⟩ := h <;> simp [refDataByte, State.toRef, Pend.toRef, *]

theorem refDataByte_of_sysCom (cap : Option Nat) {s : State} {k : SysComKind} {d : List Data7} (v : Data7)
    (hp : s.pend = .sysCom k d) :
    refDataByte cap (dataByte v) s.toRef =
      refFixedAppend (.sysCom k.toByte k.need) k.toByte k.need d v s.toRef := by
  simp [refDataByte, State.toRef, Pend.toRef, hp]

theorem refDataByte_of_sysEx (cap : Option Nat) {s : State} {p : List Data7} (v : Data7) (hp : s.pend = .sysEx p) :
    refDataByte cap (dataByte v) s.toRef = refSysexAppend cap p (dataByte v) s.toRef := by
  simp [refDataByte, State.toRef, Pend.toRef, hp]

/-- Under the bound of R12 the buffer is full exactly when it holds `SYSEX_CAP` bytes. -/
theorem bufferFull_iff_of_payloadWithinCap {s : State} {p : List Data7} (hs : s.payloadWithinCap = true)
    (hp : s.pend = .sysEx p) : bufferFull s.cfg p = true ↔ some p.length = s.cfg.sysexCap := by
  rw [bufferFull_iff]
  constructor
  · rintro ⟨cap, hcap, hle⟩
    rw [hcap, le_antisymm (s.payloadWithinCap_iff.mp hs p cap hp hcap) hle]
  · exact fun h => ⟨p.length, h.symm, le_rfl⟩

/-! ### One byte, and a stream -/

/-- The commuting square of one byte: reading the registers as bytes, then the pseudocode, is the machine, then reading. -/
theorem refFeed_toRef (b : Byte) {s : State} (hs : s.payloadWithinCap = true) :
    refFeed s.cfg.sysexCap b s.toRef = ((feed b s).toRef, (feed b s).out) := by
  have hstep := byteStep_feed b s
  generalize feed b s = t at hstep ⊢
  cases hstep with
  | overflow v p hp hfull =>
    have hcap := (bufferFull_iff_of_payloadWithinCap hs hp).mp hfull
    rw [refFeed_dataByte, refDataByte_of_sysEx _ v hp, refSysexAppend, if_pos hcap]; rfl
  | sysExKeep v p hp hroom =>
    have hcap : ¬ some p.length = s.cfg.sysexCap := by simp [← bufferFull_iff_of_payloadWithinCap hs hp, hroom]
    rw [refFeed_dataByte, refDataByte_of_sysEx _ v hp, refSysexAppend, if_neg hcap, dataByte_value]; rfl
  | chanComplete v st d hopen hlast =>
    have hlen : (d ++ [v]).length = st.kind.need := by simpa using hlast
    rw [refFeed_dataByte, refDataByte_of_openGroup _ v hopen, refFixedAppend, if_pos hlen, refDecode_chanStatus st _ hlen]
    rfl
  | chanKeep v st d hopen hmore =>
    have hlen : (d ++ [v]).length ≠ st.kind.need := by simpa using hmore
    rw [refFeed_dataByte, refDataByte_of_openGroup _ v hopen, refFixedAppend, if_neg hlen]; rfl
  | sysComComplete v k d hp hlast =>
    have hlen : (d ++ [v]).length = k.need := by simpa using hlast
    rw [refFeed_dataByte, refDataByte_of_sysCom _ v hp, refFixedAppend, if_pos hlen, refDecode_sysComKind k _ hlen]; rfl
  | sysComKeep v k d hp hmore =>
    have hlen : (d ++ [v]).length ≠ k.need := by simpa using hmore
    rw [refFeed_dataByte, refDataByte_of_sysCom _ v hp, refFixedAppend, if_neg hlen]; rfl
  | orphan v hp hr => simp [refFeed_dataByte, refDataByte, State.toRef, Pend.toRef, hp, hr]
  | channelStatus st => exact refFeed_chanStatus _ _ st
  | sox | tuneRequest => rfl
  | awaitSysCom k => exact refFeed_sysComKind _ _ k
  | endSysEx p hp => simp [refFeed, refSysexEnd, State.toRef, Pend.toRef, hp]
  | unexpectedEox hidle =>
    cases hp : s.pend with
    | sysEx p => simp [State.sysexActive, hp] at hidle
    | _ => simp [refFeed, refSysexEnd, State.toRef, Pend.toRef, hp]
  | undefinedCommon hb => obtain rfl | rfl | rfl := hb <;> rfl
  | realTime hb => exact refFeed_realTime _ _ hb

/-- On every stream the pseudocode emits what the machine emits, from every state of the invariant. -/
theorem refTrace_toRef (w : List Byte) {s : State} (hs : s.inv = true) :
    refTrace s.cfg.sysexCap w s.toRef = trace w s := by
  induction w generalizing s with
  | nil => rfl
  | cons b w ih =>
    obtain ⟨-, -, -, hcap⟩ := s.inv_iff.mp hs
    have hrest := ih (feed_inv b s hs)
    rw [feed_cfg] at hrest
    simp only [refTrace, trace, refFeed_toRef b hcap, hrest]

/-- Settles O54: the square of one byte by `refFeed_toRef`, streams by `refTrace_toRef`. -/
theorem machineRefinesBytePseudocode : Obligations.MachineRefinesBytePseudocode := by
  refine ⟨fun b s hs => ?_, fun w s hs => (refTrace_toRef w hs).symm⟩
  obtain ⟨-, -, -, hcap⟩ := s.inv_iff.mp hs
  exact (refFeed_toRef b hcap).symm

end Sys2Proof.Machine
end

section
/-! PROOFS. Groups of data bytes under running status, and groups that wait (R57, R58). -/

namespace Sys2Proof.Machine

/-- With running status and nothing pending, a group without data is open (R114). -/
theorem openGroup_of_registers {s : State} {st : ChanStatus} (h : s.registers = (some st, .empty)) :
    s.OpenGroup st [] := by
  obtain ⟨hrs, hpend⟩ := Prod.mk.inj h
  exact .inr ⟨hpend, hrs, rfl⟩

/-! ### Complete groups -/

/-- The data bytes that an open Channel message lacks emit it, and running status stays. -/
theorem openGroup_run (e : List Data7) {s : State} {st : ChanStatus} {d : List Data7} (hrs : s.rs = some st)
    (hopen : s.OpenGroup st d) (hlen : d.length + e.length = st.kind.need) (he : e ≠ []) :
    emitted (e.map dataByte) s = [decodeChan st (d ++ e)] ∧
    (feedAll (e.map dataByte) s).registers = (some st, .empty) := by
  induction e generalizing s d with
  | nil => exact absurd rfl he
  | cons v e ih =>
    rw [List.map_cons, emitted_cons, feedAll_cons]
    rw [List.length_cons] at hlen
    by_cases hend : e = []
    · subst hend
      rw [(ByteStep.chanComplete v st d hopen hlen).feed_eq]
      exact ⟨rfl, Prod.ext hrs rfl⟩
    · have hmore : d.length + 1 ≠ st.kind.need := by
        have hpos := List.length_pos_iff.mpr hend
        omega
      rw [(ByteStep.chanKeep v st d hopen hmore).feed_eq]
      simpa using ih (s := (s.setPend (.chan st (d ++ [v]))).silent) hrs (.inl rfl) (by simp; omega) hend

/-- Any number of complete groups under running status emit one message each, and running status stays (R57). -/
theorem groups_run (gs : List (List Data7)) {s : State} {st : ChanStatus} (hs : s.registers = (some st, .empty))
    (hlen : ∀ g ∈ gs, g.length = st.kind.need) :
    emitted (gs.flatMap fun g => g.map dataByte) s = gs.map (decodeChan st) ∧
    (feedAll (gs.flatMap fun g => g.map dataByte) s).registers = (some st, .empty) := by
  induction gs generalizing s with
  | nil => exact ⟨rfl, hs⟩
  | cons g gs ih =>
    obtain ⟨hg, hgs⟩ := List.forall_mem_cons.mp hlen
    have hne : g ≠ [] := List.length_pos_iff.mp (hg ▸ st.kind.need_pos)
    obtain ⟨hrs, -⟩ := Prod.mk.inj hs
    obtain ⟨hemit, hregs⟩ := openGroup_run g hrs (openGroup_of_registers hs) (by simpa using hg) hne
    obtain ⟨hemits, hregss⟩ := ih hregs hgs
    rw [List.flatMap_cons, emitted_append, feedAll_append, hemit, hemits]
    exact ⟨rfl, hregss⟩

/-- Under running status a data byte does what it does after the status byte (R57). -/
theorem feed_dataByte_after_status (v : Data7) {s : State} {st : ChanStatus} (hs : s.registers = (some st, .empty)) :
    feed (dataByte v) (feed st.toByte s) = feed (dataByte v) s := by
  rw [feed_chanStatus, feed_dataByte_of_openGroup v (.inl rfl), feed_dataByte_of_openGroup v (openGroup_of_registers hs)]
  obtain ⟨hrs, -⟩ := Prod.mk.inj hs
  obtain ⟨rs, pend, cfg, input, out, sink⟩ := s
  obtain rfl : rs = some st := hrs
  unfold chanAppend; split <;> rfl

/-- Settles O37: groups by `groups_run`, a stream without its status byte by `feed_dataByte_after_status`, the bytes that
clear or keep running status by the frame lemmas of `feed`. -/
theorem runningStatusPersists : Obligations.RunningStatusPersists := by
  refine ⟨fun st gs s hneed hs => ?_, fun st vs s hneed hs => ?_, fun st v w s hs => ?_,
    fun b s => feed_rs_of_isSystemCommon s, fun b s hb => by rw [feed_realTime b s hb, State.emit_rs]⟩
  · have hlen : ∀ g ∈ gs.map fun g => [g.1, g.2], g.length = st.kind.need := List.forall_mem_map.mpr fun _ _ => hneed.symm
    simpa [List.flatMap_map, Function.comp_def] using groups_run _ hs hlen
  · have hlen : ∀ g ∈ vs.map fun v => [v], g.length = st.kind.need := List.forall_mem_map.mpr fun _ _ => hneed.symm
    simpa [List.flatMap_map, Function.comp_def, ← List.map_eq_flatMap] using groups_run _ hs hlen
  · have hafter := feed_dataByte_after_status v hs
    rw [emitted_cons, emitted_cons, emitted_cons, feedAll_cons, feedAll_cons, hafter, feed_chanStatus]
    exact ⟨rfl, rfl⟩

/-! ### Groups that wait -/

/-- Everything a byte can do to a pending message of a fixed length that lacks data (R58). `shape` is `CHAN` or `SYSCOM` with
its status, `need` the count of the status and `complete` its `decode`; the hypotheses on data bytes are R113. -/
theorem feed_waiting (b : Byte) {s : State} {shape : List Data7 → Pend} {complete : List Data7 → Message} {need : Nat}
    {d : List Data7} (hp : s.pend = shape d) (hidle : s.sysexActive = false) (hlt : d.length < need)
    (hkeep : ∀ v, d.length + 1 ≠ need → feed (dataByte v) s = (s.setPend (shape (d ++ [v]))).silent)
    (hcomplete : ∀ v, d.length + 1 = need → feed (dataByte v) s = (s.setPend .empty).emit (complete (d ++ [v]))) :
    ((feed b s).pend = shape d ∧ isRealTime b = true) ∨
    (d.length + 1 < need ∧ isDataByte b = true ∧ (feed b s).pend = shape (d ++ [b.extractLsb' 0 7]) ∧
      (feed b s).out = none) ∨
    (d.length + 1 = need ∧ isDataByte b = true ∧ (feed b s).pend = .empty ∧
      (feed b s).out = some (complete (d ++ [b.extractLsb' 0 7]))) ∨
    ((isChannelStatus b = true ∨ isSystemCommon b = true) ∧ feed b s = feed b { s with pend := .empty }) := by
  have hstatus {b : Byte} (hb : isChannelStatus b = true ∨ isSystemCommon b = true) :
      feed b s = feed b { s with pend := .empty } := feed_status_congr hb hidle rfl rfl
  obtain ⟨v, rfl⟩ | ⟨st, rfl⟩ | hsc | hrt := byte_cases b
  · rw [dataByte_value]
    obtain hmore | hlast : d.length + 1 < need ∨ d.length + 1 = need := by omega
    · rw [hkeep v hmore.ne]
      exact .inr (.inl ⟨hmore, by simp, rfl, rfl⟩)
    · rw [hcomplete v hlast]
      exact .inr (.inr (.inl ⟨hlast, by simp, rfl, rfl⟩))
  · have hb : isChannelStatus st.toByte = true := by simp
    exact .inr (.inr (.inr ⟨.inl hb, hstatus (.inl hb)⟩))
  · exact .inr (.inr (.inr ⟨.inr hsc, hstatus (.inr hsc)⟩))
  · rw [feed_realTime b s hrt]
    exact .inl ⟨hp, hrt⟩

/-- Settles O38: idle boundaries and reset by what `step` does there, both pending shapes by `feed_waiting`. -/
theorem incompleteGroupWaits : Obligations.IncompleteGroupWaits := by
  refine ⟨fun _ _ _ => rfl, fun s v b rest => ⟨_, step_reset s v b rest, rfl, rfl⟩, fun b s st d hp hlt => ?_,
    fun b s k d hp hlt => ?_⟩
  · exact feed_waiting b hp (by simp [State.sysexActive, hp]) hlt
      (fun v hmore => (ByteStep.chanKeep v st d (.inl hp) hmore).feed_eq)
      (fun v hlast => (ByteStep.chanComplete v st d (.inl hp) hlast).feed_eq)
  · exact feed_waiting b hp (by simp [State.sysexActive, hp]) hlt
      (fun v hmore => (ByteStep.sysComKeep v k d hp hmore).feed_eq)
      (fun v hlast => (ByteStep.sysComComplete v k d hp hlast).feed_eq)

end Sys2Proof.Machine
end

section
/-! PROOFS. The output record of R62. -/

namespace Sys2Proof.Machine

/-- The `kind` of a record is the tag of its message, whatever the other fields hold. -/
@[simp] theorem Message.toRecord_kind (any : OutRecord) (m : Message) : (m.toRecord any).kind = m.tag := by
  cases m <;> rfl

theorem Message.tag_range (m : Message) : 1 ≤ m.tag.toNat ∧ m.tag.toNat ≤ 18 := by
  cases m <;> simp [Message.tag]

@[simp] theorem Reason.ofCode_code (x : Reason) : Reason.ofCode x.code = x := by
  cases x <;> rfl

theorem OutRecord.toMessage_toRecord (any : OutRecord) (m : Message) : (m.toRecord any).toMessage = some m := by
  cases m with
  | malformed b x => exact congrArg (fun y => some (Message.malformed b y)) x.ofCode_code
  | _ => rfl

/-- A record that stands for a message carries its tag. -/
theorem OutRecord.kind_eq_tag {r : OutRecord} {m : Message} (h : r.toMessage = some m) : r.kind = m.tag := by
  unfold OutRecord.toMessage at h
  split at h <;> cases h <;> assumption

/-- Settles O58: reading back by `toMessage_toRecord`, the tags by `tag_range` and, for a record that stands for a message,
`kind_eq_tag`; the fields are those `toRecord` writes. -/
theorem outputRecordRoundTrip : Obligations.OutputRecordRoundTrip := by
  refine ⟨OutRecord.toMessage_toRecord, fun any m => by rw [Message.toRecord_kind]; exact m.tag_range,
    fun _ _ _ _ => ⟨rfl, rfl, rfl, rfl, rfl, rfl, rfl, rfl, rfl⟩, fun _ _ => rfl, fun _ => rfl,
    fun _ _ => ⟨rfl, rfl, rfl, rfl⟩, fun r hr => ?_⟩
  refine Option.eq_none_iff_forall_ne_some.mpr fun m hm => ?_
  have hrange := m.tag_range
  rw [← OutRecord.kind_eq_tag hm] at hrange
  omega

end Sys2Proof.Machine
end

section
/-! PROOFS. The five bytes to which the source assigns no message (R55). -/

namespace Sys2Proof.Machine

/-- Settles O26: each instruction is one report, for the System Common ones after a clear, so that a data byte then meets
the orphan rule; the examples by running them. -/
theorem undefinedBytesReport : Obligations.UndefinedBytesReport := by
  refine ⟨fun b => by simp [isUndefinedStatus, or_assoc], rfl, rfl, rfl, rfl, rfl, fun _ => rfl, fun _ => rfl,
    fun _ => rfl, fun _ => rfl, fun _ => rfl, fun s v => ?_, fun _ => rfl, fun _ => rfl, fun s hcap => ?_⟩
  · rw [trace, trace, feed_dataByte_of_fresh v rfl rfl]; rfl
  · obtain ⟨rs, pend, ⟨cap⟩, input, out, sink⟩ := s
    obtain rfl : cap = none := hcap
    rfl

end Sys2Proof.Machine
end

section
/-! PROOFS. What a run reads of its start: the build and the two registers, nothing else (R28, R162). -/

namespace Sys2Proof.Machine

/-- For one build, the next registers and the output of a byte depend on the registers alone: the two states differ in
the environment's fields only. -/
theorem feed_congr (b : Byte) {s s' : State} (hregs : s.registers = s'.registers) (hcfg : s.cfg = s'.cfg) :
    (feed b s).registers = (feed b s').registers ∧ (feed b s).out = (feed b s').out := by
  obtain ⟨hrs, hpend⟩ := Prod.mk.inj hregs
  have hs' : s' = s.withEnv s'.input s'.out s'.sink := by rw [State.withEnv, hrs, hpend, hcfg]
  rw [hs', ((byteStep_feed b s).withEnv s'.input s'.out s'.sink).feed_eq]
  exact ⟨rfl, rfl⟩

/-- For one build, the outputs and the end registers of a stream depend on the registers alone. -/
theorem run_congr (w : List Byte) {s s' : State} (hregs : s.registers = s'.registers) (hcfg : s.cfg = s'.cfg) :
    trace w s = trace w s' ∧ (feedAll w s).registers = (feedAll w s').registers := by
  induction w generalizing s s' with
  | nil => exact ⟨rfl, hregs⟩
  | cons b w ih =>
    obtain ⟨hregs', hout⟩ := feed_congr b hregs hcfg
    obtain ⟨htrace, hend⟩ := ih hregs' (by rw [feed_cfg, feed_cfg, hcfg])
    exact ⟨by rw [trace, trace, hout, htrace], hend⟩

end Sys2Proof.Machine
end

section
/-! PROOFS. Real-Time bytes inserted into a stream or deleted from it (R79). -/

namespace Sys2Proof.Machine

/-- After a Real-Time byte a stream runs as it does without it. -/
theorem run_after_realTime {r : Byte} (hr : isRealTime r = true) (w : List Byte) (s : State) :
    trace w (feed r s) = trace w s ∧ (feedAll w (feed r s)).registers = (feedAll w s).registers :=
  run_congr w (by rw [feed_realTime r s hr]; rfl) (feed_cfg r s)

/-- A Real-Time byte in front puts its message in front and leaves the end registers. -/
theorem realTime_cons {r : Byte} (hr : isRealTime r = true) (w : List Byte) (s : State) :
    (feedAll (r :: w) s).registers = (feedAll w s).registers ∧ emitted (r :: w) s = refRtMessage r :: emitted w s := by
  obtain ⟨htrace, hregs⟩ := run_after_realTime hr w s
  have hout : (feed r s).out = some (refRtMessage r) := by rw [feed_realTime r s hr]; rfl
  exact ⟨hregs, by rw [emitted_cons, hout, emitted, htrace]; rfl⟩

/-- Settles O28: `realTime_cons` at the start of a stream, and after `u` at the state `u` leads to. -/
theorem realTimeInterleaving : Obligations.RealTimeInterleaving := by
  refine ⟨fun s r w hr => realTime_cons hr w s, fun s r u w hr => ?_⟩
  obtain ⟨hregs, hemit⟩ := realTime_cons hr w (feedAll u s)
  rw [feedAll_append, feedAll_append]
  exact ⟨hregs, _, _, rfl, emitted_append u w s, by rw [emitted_append, hemit]⟩

/-- Settles O29, by induction on the stream: a Real-Time byte is deleted with its output and the rest runs as without it
(`run_after_realTime`); any other byte stays in both streams with its output. -/
theorem deletingRealTimeBytes : Obligations.DeletingRealTimeBytes := by
  intro w s
  induction w generalizing s with
  | nil => exact ⟨rfl, rfl⟩
  | cons b w ih =>
    cases hb : isRealTime b with
    | true =>
      obtain ⟨htrace, hregs⟩ := run_after_realTime hb w s
      obtain ⟨hregsRest, hemitRest⟩ := ih s
      simp only [trace, htrace, feedAll_cons, hregs, List.zip_cons_cons, List.filter_cons, hb]
      exact ⟨hregsRest, hemitRest⟩
    | false =>
      obtain ⟨hregsRest, hemitRest⟩ := ih (feed b s)
      simp only [trace, List.zip_cons_cons, List.filter_cons, hb, Bool.not_false, if_true, feedAll_cons, emitted_cons,
        hemitRest]
      refine ⟨hregsRest, ?_⟩
      cases (feed b s).out <;> rfl

end Sys2Proof.Machine
end

section
/-! PROOFS. System Exclusive start and end, with the output of each step (R80 to R83). -/

namespace Sys2Proof.Machine

/-- With no bound on the buffer a data byte always goes into the payload, silently (R111). -/
theorem feed_dataByte_of_unbounded (v : Data7) {s : State} {p : List Data7} (hcap : s.cfg.sysexCap = none)
    (hp : s.pend = .sysEx p) : feed (dataByte v) s = (s.appendSysEx p v).silent :=
  (ByteStep.sysExKeep v p hp (by simp [bufferFull, hcap])).feed_eq

/-- With both registers empty a data byte is an orphan (R116). -/
theorem trace_dataByte_of_fresh (v : Data7) {s : State} (hp : s.pend = .empty) (hr : s.rs = none) :
    trace [dataByte v] s = [some (.malformed (dataByte v) .orphanData)] := by
  rw [trace, trace, feed_dataByte_of_fresh v hp hr]; rfl

/-- What a byte inside a SysEx shows: a Real-Time byte its message, a data byte nothing (R70, R111). -/
def interiorOutput (b : Byte) : Option Message := if isRealTime b then some (refRtMessage b) else none

/-- While a SysEx with no bound on the buffer is active, data and Real-Time bytes show `interiorOutput`, byte by byte. -/
theorem trace_of_dataOrRealTime (w : List Byte) {s : State} {q : List Data7} (hcap : s.cfg.sysexCap = none)
    (hs : s.pend = .sysEx q) (hw : dataOrRealTime w = true) : trace w s = w.map interiorOutput := by
  induction w generalizing s q with
  | nil => rfl
  | cons b w ih =>
    obtain ⟨hb | hb, hrest⟩ := (dataOrRealTime_cons b w).mp hw
    · obtain ⟨v, rfl⟩ : ∃ v, b = dataByte v := ⟨_, (dataByte_extractLsb' b hb).symm⟩
      have hkeep := feed_dataByte_of_unbounded v hcap hs
      rw [trace, ih (s := feed (dataByte v) s) (by simpa using hcap) (by rw [hkeep]; rfl) hrest, hkeep]
      simp [interiorOutput]
    · have hemits := feed_realTime b s hb
      rw [trace, ih (s := feed b s) (by simpa using hcap) (by rw [hemits]; exact hs) hrest, hemits]
      simp [interiorOutput, hb]

/-- A SysEx that 0xF0 opens, with no bound on the buffer: 0xF0 shows nothing, whatever was pending (R80). -/
theorem trace_sox_of_dataOrRealTime (w : List Byte) {s : State} (hcap : s.cfg.sysexCap = none)
    (hw : dataOrRealTime w = true) : trace (0xF0 :: w) s = none :: w.map interiorOutput :=
  congrArg (none :: ·) (trace_of_dataOrRealTime w (s := feed 0xF0 s) hcap rfl hw)

/-- The whole frame: 0xF7 shows the SysEx of exactly the data bytes since 0xF0 (R82). -/
theorem trace_sysExFrame (w : List Byte) {s : State} (hcap : s.cfg.sysexCap = none) (hw : dataOrRealTime w = true) :
    trace (0xF0 :: w ++ [0xF7]) s = none :: w.map interiorOutput ++ [some (.sysEx (dataOf w))] := by
  obtain ⟨hpend, -⟩ := feedAll_of_dataOrRealTime w (s := feed 0xF0 s) (q := []) rfl hw (by simp [bufferFits, hcap])
  rw [trace_append, trace_sox_of_dataOrRealTime w hcap hw, feedAll_cons, trace, feed_eox_of_sysEx hpend]
  rfl

/-- Settles O19: 0xF0 reads no state, so what precedes it does not show in its frame (`trace_sysExFrame`); the data byte by
`feed_dataByte_of_unbounded`; 0xF7 leaves both registers empty, so a data byte after it is an orphan. -/
theorem soxOpensEmptySysEx : Obligations.SoxOpensEmptySysEx := by
  refine ⟨fun _ => rfl, fun s v hcap => ?_, fun s hcap => ?_, fun s v => ?_⟩
  · exact feed_dataByte_of_unbounded v (s := feed 0xF0 s) hcap rfl
  · have hdropped : trace [0xF0, 0x01] s = [none, none] := trace_sox_of_dataOrRealTime [0x01] hcap rfl
    have hframe : trace [0xF0, 0x02, 0xF7] (feedAll [0xF0, 0x01] s) = [none, none, some (.sysEx [0x02])] :=
      trace_sysExFrame [0x02] (by simpa using hcap) rfl
    exact (trace_append [0xF0, 0x01] _ s).trans (congrArg₂ (· ++ ·) hdropped hframe)
  · rw [trace, feed_sox, trace, feed_eox_of_sysEx rfl, trace_dataByte_of_fresh v rfl rfl]; rfl

/-- Settles O20: `feed_eox_of_sysEx` in every state, and the examples as frames: the empty one by running it, the one with a
clock inside by `trace_sysExFrame`. -/
theorem eoxEmitsActiveSysEx : Obligations.EoxEmitsActiveSysEx := by
  refine ⟨fun s p => ?_, fun _ => rfl, fun s hcap => trace_sysExFrame [0x01, 0x02, 0xF8, 0x03] hcap rfl⟩
  exact (exec_decode 0xF7 _).trans (congrArg _ (feed_eox_of_sysEx rfl))

/-- Settles O21: with no SysEx active 0xF7 is one report after a clear (`feed_eox_of_inactive`), so that a data byte then
meets the orphan rule; the first of two 0xF7 closes the SysEx and the second finds none; the example by running it. -/
theorem eoxWithoutSysExIsMalformed : Obligations.EoxWithoutSysExIsMalformed := by
  refine ⟨fun s h => ?_, fun s v h => ?_, fun s p => ?_, fun _ => rfl⟩
  · exact (exec_decode 0xF7 s).trans (congrArg _ (feed_eox_of_inactive h))
  · rw [trace, feed_eox_of_inactive h, trace_dataByte_of_fresh v rfl rfl]; rfl
  · rw [trace, feed_eox_of_sysEx rfl, trace, feed_eox_of_inactive rfl]; rfl

end Sys2Proof.Machine
end

section
/-! PROOFS. System Common bytes other than the SysEx ends, and the two song messages (R91, R92, R95, R96). -/

namespace Sys2Proof.Machine

/-- 0xF1, 0xF4, 0xF5 and 0xF6, in every state: a clear and the message at once (R95, R96, R134). -/
theorem feed_immediateCommon {b : Byte} (hb : b = 0xF6 ∨ b = 0xF1 ∨ b = 0xF4 ∨ b = 0xF5) (s : State) :
    feed b s = s.clear.emit (if b = 0xF6 then .tuneRequest else .malformed b .undefinedStatus) := by
  obtain rfl | hu := hb
  · exact feed_tuneRequest s
  · have hne : b ≠ 0xF6 := by obtain rfl | rfl | rfl := hu <;> decide
    rw [if_neg hne]
    exact feed_undefinedCommon hu s

/-- Those four bytes await no data (R49). -/
theorem refNeedOf_immediateCommon {b : Byte} (hb : b = 0xF6 ∨ b = 0xF1 ∨ b = 0xF4 ∨ b = 0xF5) : refNeedOf b = 0 := by
  obtain rfl | rfl | rfl | rfl := hb <;> rfl

/-- Settles O24: a byte 0xF1..0xF6 either awaits data (`feed_sysComKind`) or completes at once (`feed_immediateCommon`),
and its count says which; the example by running it. -/
theorem systemCommonClears : Obligations.SystemCommonClears := by
  refine ⟨fun b s hb hsox heox => ?_, rfl, fun _ => rfl, fun _ => rfl⟩
  obtain hstart | ⟨k, rfl⟩ | hend | hnow := systemCommon_cases b hb
  · exact absurd hstart hsox
  · have hneed := refNeedOf_sysComKind k
    have hawait := (exec_decode k.toByte s).trans (congrArg _ (feed_sysComKind k s))
    exact ⟨fun _ => ⟨k, rfl, hneed.symm, hawait⟩, fun hzero => absurd (hneed.symm.trans hzero) k.need_pos.ne'⟩
  · exact absurd hend heox
  · have hemit := (exec_decode b s).trans (congrArg _ (feed_immediateCommon hnow s))
    exact ⟨fun hpos => absurd (refNeedOf_immediateCommon hnow) hpos.ne', fun _ => ⟨_, rfl, hemit⟩⟩

/-- The data bytes that a pending System Common message lacks, with no running status: nothing is shown before the last one,
which shows the message and leaves both registers empty (R113). -/
theorem pendingSysCom_run (v : Data7) (e : List Data7) {s : State} {k : SysComKind} {d : List Data7} (hrs : s.rs = none)
    (hp : s.pend = .sysCom k d) (hlen : d.length + (e.length + 1) = k.need) :
    trace ((v :: e).map dataByte) s = List.replicate e.length none ++ [some (decodeSysCom k (d ++ v :: e))] ∧
    (feedAll ((v :: e).map dataByte) s).registers = (none, .empty) := by
  induction e generalizing v s d with
  | nil =>
    rw [List.map_cons, trace, feedAll_cons, (ByteStep.sysComComplete v k d hp hlen).feed_eq]
    exact ⟨rfl, Prod.ext hrs rfl⟩
  | cons u e ih =>
    rw [List.length_cons] at hlen
    have hmore : d.length + 1 ≠ k.need := by omega
    rw [List.map_cons, trace, feedAll_cons, (ByteStep.sysComKeep v k d hp hmore).feed_eq]
    obtain ⟨hshown, hend⟩ :=
      ih u (s := (s.setPend (.sysCom k (d ++ [v]))).silent) (d := d ++ [v]) hrs rfl (by simp; omega)
    rw [hshown, List.append_assoc]
    exact ⟨rfl, hend⟩

/-- A System Common status byte with all its data bytes, from any state (R96, R126, R127). -/
theorem sysComMessage_run (k : SysComKind) (v : Data7) (e : List Data7) (hlen : e.length + 1 = k.need) (s : State) :
    trace (k.toByte :: (v :: e).map dataByte) s = List.replicate k.need none ++ [some (decodeSysCom k (v :: e))] ∧
    (feedAll (k.toByte :: (v :: e).map dataByte) s).registers = (none, .empty) := by
  obtain ⟨hshown, hend⟩ :=
    pendingSysCom_run v e (s := (s.openSysCom k).silent) (k := k) (d := []) rfl rfl (by simpa using hlen)
  rw [trace, feedAll_cons, feed_sysComKind, hshown, ← hlen]
  exact ⟨rfl, hend⟩

/-- A data byte after a run that leaves both registers empty is an orphan (R116). -/
theorem trace_orphan_after {w : List Byte} {s : State} (hend : (feedAll w s).registers = (none, .empty)) (v : Data7) :
    trace (w ++ [dataByte v]) s = trace w s ++ [some (.malformed (dataByte v) .orphanData)] := by
  obtain ⟨hrs, hpend⟩ := Prod.mk.inj hend
  rw [trace_append, trace_dataByte_of_fresh v hpend hrs]

/-- Settles O25: both messages by `sysComMessage_run`, the orphan after them by `trace_orphan_after`; a status byte reads
neither register while no SysEx is active (`feed_status_congr`), so it drops what was pending. -/
theorem songStatusAndMessages : Obligations.SongStatusAndMessages := by
  refine ⟨fun _ => rfl, fun _ => rfl, rfl, rfl, rfl, rfl, rfl, rfl, fun l m x s => ?_, fun x y s => ?_,
    fun b s k d hb => feed_status_congr hb rfl rfl rfl⟩
  · obtain ⟨hshown, hend⟩ := sysComMessage_run .songPosition l [m] rfl s
    exact ⟨(trace_orphan_after hend x).trans (congrArg (· ++ _) hshown), hend⟩
  · obtain ⟨hshown, hend⟩ := sysComMessage_run .songSelect x [] rfl s
    exact ⟨(trace_orphan_after hend y).trans (congrArg (· ++ _) hshown), hend⟩

end Sys2Proof.Machine
end

section
/-! PROOFS. Channel status bytes and the messages they open, with the output of each step (R100 to R108, R117 to R123). -/

namespace Sys2Proof.Machine

/-! ### The status byte -/

/-- The byte of a Channel status is its type nibble above its channel, and its instruction encodes to it (R45, R54). -/
theorem statusByte_eq_or (k : ChanKind) (c : Nibble) :
    (⟨k, c⟩ : ChanStatus).toByte = (k.nibble ++ 0#4) ||| c.setWidth 8 ∧
    encode (k.status c) = (k.nibble ++ 0#4) ||| c.setWidth 8 := by
  have hbyte : (⟨k, c⟩ : ChanStatus).toByte = (k.nibble ++ 0#4) ||| c.setWidth 8 := by
    cases k <;> (revert c; decide)
  exact ⟨hbyte, (encode_status k c).trans hbyte⟩

/-- Settles O12: a byte of the class is the byte of some Channel status, which `feed_chanStatus` opens in every state. -/
theorem channelStatusOpensMessage : Obligations.ChannelStatusOpensMessage := by
  intro b s hb
  obtain ⟨st, rfl⟩ := ChanStatus.toByte_surjective b hb
  have hopens := (exec_decode st.toByte s).trans (congrArg _ (feed_chanStatus st s))
  exact ⟨st, rfl, (refNeedOf_chanStatus st).symm, st.kind.need_pos.ne', hopens⟩

/-! ### The messages -/

/-- The data bytes that an open Channel message lacks: nothing is shown before the last one, which shows the message
(R113, R114). -/
theorem openGroup_trace (v : Data7) (e : List Data7) {s : State} {st : ChanStatus} {d : List Data7}
    (hopen : s.OpenGroup st d) (hlen : d.length + (e.length + 1) = st.kind.need) :
    trace ((v :: e).map dataByte) s = List.replicate e.length none ++ [some (decodeChan st (d ++ v :: e))] := by
  induction e generalizing v s d with
  | nil =>
    rw [List.map_cons, trace, (ByteStep.chanComplete v st d hopen hlen).feed_eq]
    rfl
  | cons u e ih =>
    rw [List.length_cons] at hlen
    have hmore : d.length + 1 ≠ st.kind.need := by omega
    rw [List.map_cons, trace, (ByteStep.chanKeep v st d hopen hmore).feed_eq,
      ih u (s := (s.setPend (.chan st (d ++ [v]))).silent) (.inl rfl) (by simp; omega), List.append_assoc]
    rfl

/-- A Channel status byte with all its data bytes, from any state: the message at the last one, and running status stays. -/
theorem chanMessage_run (st : ChanStatus) (v : Data7) (e : List Data7) (hlen : e.length + 1 = st.kind.need) (s : State) :
    trace (st.toByte :: (v :: e).map dataByte) s =
      none :: (List.replicate e.length none ++ [some (decodeChan st (v :: e))]) ∧
    (feedAll (st.toByte :: (v :: e).map dataByte) s).registers = (some st, .empty) := by
  have hopen : (s.openChannel st).silent.OpenGroup st [] := .inl rfl
  have hlen' : ([] : List Data7).length + (v :: e).length = st.kind.need := by simpa using hlen
  rw [trace, feedAll_cons, feed_chanStatus, openGroup_trace v e hopen hlen']
  exact ⟨rfl, (openGroup_run (v :: e) rfl hopen hlen' (List.cons_ne_nil v e)).2⟩

/-- A second complete group after the message, without its status byte, is one more message of the same status (R114). -/
theorem twoGroups_trace (st : ChanStatus) (v : Data7) (e : List Data7) (v' : Data7) (e' : List Data7)
    (hlen : e.length + 1 = st.kind.need) (hlen' : e'.length + 1 = st.kind.need) (s : State) :
    trace (st.toByte :: (v :: e).map dataByte ++ (v' :: e').map dataByte) s =
      none :: (List.replicate e.length none ++ [some (decodeChan st (v :: e))]) ++
        (List.replicate e'.length none ++ [some (decodeChan st (v' :: e'))]) := by
  obtain ⟨hshown, hend⟩ := chanMessage_run st v e hlen s
  rw [trace_append, hshown, openGroup_trace v' e' (openGroup_of_registers hend) (by simpa using hlen')]
  rfl

/-- A completed Note-On group by its velocity (R118). -/
theorem decodeNoteOn_eq_ite_ne (c : Nibble) (n v : Data7) :
    decodeNoteOn c n v = if v ≠ 0 then .noteOn c n v else .noteOff c n 0 := by
  rw [ite_not]; rfl

/-! ### The obligations -/

/-- Settles O13: what the status byte leaves is `feed_chanStatus` in every state, so nothing of the state before it shows;
the groups after two status bytes are those of the second (`twoGroups_trace`); the examples by running them. -/
theorem channelStatusCornerCases : Obligations.ChannelStatusCornerCases := by
  have hreplaced (st st' : ChanStatus) (s : State) : feed st'.toByte (feed st.toByte s) = feed st'.toByte s := by
    rw [feed_chanStatus, feed_chanStatus, feed_chanStatus]; rfl
  refine ⟨fun b s hb => ?_, fun _ => rfl, hreplaced, fun k c c' n v s hneed => ?_, fun k c c' n v s hneed => ?_,
    fun _ => rfl, fun b p s hb => ?_, fun b r s _ hr => ?_⟩
  · obtain ⟨st, rfl⟩ := ChanStatus.toByte_surjective b hb
    rw [feed_chanStatus, feed_chanStatus]; rfl
  · rw [trace, feed_chanStatus]
    exact congrArg _ (twoGroups_trace ⟨k, c'⟩ n [v] v [n] hneed.symm hneed.symm _)
  · rw [trace, feed_chanStatus]
    exact congrArg _ (twoGroups_trace ⟨k, c'⟩ n [] v [] hneed.symm hneed.symm _)
  · obtain ⟨st, rfl⟩ := ChanStatus.toByte_surjective b hb
    rw [feed_chanStatus]
    exact ⟨rfl, rfl⟩
  · rw [feed_realTime r _ hr]; rfl

/-- Settles O14: the status byte by `exec_status`, the message by `chanMessage_run`. -/
theorem noteOffStatusAndMessage : Obligations.NoteOffStatusAndMessage :=
  ⟨exec_status .noteOff, statusByte_eq_or .noteOff, rfl, fun c n v s => chanMessage_run ⟨.noteOff, c⟩ n [v] rfl s⟩

/-- Settles O15: as O14, with the message by its velocity (`decodeNoteOn_eq_ite_ne`); the group after a normalised one is a
Note-On group again because the status that `twoGroups_trace` decodes it under is still Note-On. -/
theorem noteOnStatusAndNormalisation : Obligations.NoteOnStatusAndNormalisation := by
  refine ⟨exec_status .noteOn, statusByte_eq_or .noteOn, rfl, fun c n v s => ?_, fun c n m v s hv => ?_, fun _ _ => rfl⟩
  · rw [← decodeNoteOn_eq_ite_ne]
    exact chanMessage_run ⟨.noteOn, c⟩ n [v] rfl s
  · have hsecond : decodeChan ⟨.noteOn, c⟩ [m, v] = .noteOn c m v := (decodeNoteOn_eq_ite_ne c m v).trans (if_pos hv)
    rw [← hsecond]
    exact twoGroups_trace ⟨.noteOn, c⟩ n [0] m [v] rfl rfl s

/-- Settles O16: the status bytes by `exec_status`, the messages by `chanMessage_run`. -/
theorem twoByteKindsStatusAndMessage : Obligations.TwoByteKindsStatusAndMessage := by
  refine ⟨exec_status .polyPressure, exec_status .controlChange, exec_status .pitchBend, fun c => ?_, rfl, rfl, rfl,
    fun c n p s => chanMessage_run ⟨.polyPressure, c⟩ n [p] rfl s,
    fun c k x s => chanMessage_run ⟨.controlChange, c⟩ k [x] rfl s,
    fun c l m s => chanMessage_run ⟨.pitchBend, c⟩ l [m] rfl s⟩
  obtain ⟨hpoly, hpoly'⟩ := statusByte_eq_or .polyPressure c
  obtain ⟨hcontrol, hcontrol'⟩ := statusByte_eq_or .controlChange c
  exact ⟨hpoly, hpoly', hcontrol, hcontrol', statusByte_eq_or .pitchBend c⟩

/-- Settles O17: the status bytes by `exec_status`, the messages by `chanMessage_run`, the data byte after a complete
message by `twoGroups_trace`. -/
theorem oneByteKindsStatusAndMessage : Obligations.OneByteKindsStatusAndMessage := by
  refine ⟨exec_status .programChange, exec_status .channelPressure, fun c => ?_, rfl, rfl, fun c p q s => ?_,
    fun c p s => chanMessage_run ⟨.channelPressure, c⟩ p [] rfl s⟩
  · obtain ⟨hprogram, hprogram'⟩ := statusByte_eq_or .programChange c
    exact ⟨hprogram, hprogram', statusByte_eq_or .channelPressure c⟩
  · obtain ⟨-, hend⟩ := chanMessage_run ⟨.programChange, c⟩ p [] rfl s
    exact ⟨twoGroups_trace ⟨.programChange, c⟩ p [] q [] rfl rfl s, hend⟩

end Sys2Proof.Machine
end

section
/-! PROOFS. Data bytes by the shape they find, and the complete transition table (R110 to R116, R125). -/

namespace Sys2Proof.Machine

/-! ### `decode` -/

/-- Settles O18: the rows by `refDecode_chanStatus` and `refDecode_sysComKind`, the status bytes by their classes. -/
theorem decodeFollowsTable : Obligations.DecodeFollowsTable :=
  ⟨refDecode_chanStatus, refDecode_sysComKind, fun st => by simp, fun k => by cases k <;> rfl⟩

/-! ### The instruction `DATA` -/

/-- What `ByteStep` allows a data byte is what the instruction `DATA` answers (R45). -/
theorem ByteStep.exec_data_eq {v : Data7} {s t : State} (h : ByteStep (dataByte v) s t) : exec (.data v) s = .next t :=
  (exec_data v s).trans (congrArg _ h.feed_eq)

/-- Settles O30: which operation runs by `execData`, running status by `feed_rs_of_isDataByte`. -/
theorem dataBytePriority : Obligations.DataBytePriority :=
  ⟨fun _ _ _ => rfl, fun _ _ _ _ => rfl, fun _ _ _ _ => rfl, fun _ _ _ => rfl, fun _ _ => rfl,
    fun v s => feed_rs_of_isDataByte s (by simp), dataByte_value⟩

/-- A buffer below `SYSEX_CAP` is not full; with `SYSEX_CAP = INF` none is (R111). -/
theorem bufferFull_eq_false_of_lt {cfg : Config} {p : List Data7} (h : ∀ cap, cfg.sysexCap = some cap → p.length < cap) :
    bufferFull cfg p = false := by
  rw [← Bool.not_eq_true, bufferFull_iff]
  rintro ⟨cap, hcap, hle⟩
  exact (h cap hcap).not_ge hle

/-- Settles O31: the buffer has room, so the byte is kept. -/
theorem dataByteAppendsToSysEx : Obligations.DataByteAppendsToSysEx := fun v s p hroom =>
  (ByteStep.sysExKeep (s := { s with pend := .sysEx p }) v p rfl (bufferFull_eq_false_of_lt hroom)).exec_data_eq

/-- Settles O33: the last data byte completes either shape, an earlier one is kept in it. -/
theorem dataByteCompletesPending : Obligations.DataByteCompletesPending :=
  ⟨fun v _ st d hlast => (ByteStep.chanComplete v st d (.inl rfl) hlast).exec_data_eq,
    fun v _ st d hmore => (ByteStep.chanKeep v st d (.inl rfl) hmore.ne).exec_data_eq,
    fun v _ k d hlast => (ByteStep.sysComComplete v k d rfl hlast).exec_data_eq,
    fun v _ k d hmore => (ByteStep.sysComKeep v k d rfl hmore.ne).exec_data_eq⟩

/-- Settles O34: running status stands for an open group without data, which one data byte completes or does not; after the
status byte by `feed_dataByte_after_status`; the example by running it. -/
theorem dataByteUnderRunningStatus : Obligations.DataByteUnderRunningStatus := by
  refine ⟨fun v s st hneed => ?_, fun v s st hneed => ?_, fun v s st => feed_dataByte_after_status v rfl, fun _ => rfl⟩
  · exact (ByteStep.chanComplete v st [] (.inr ⟨rfl, rfl, rfl⟩) hneed.symm).exec_data_eq
  · have hmore : ([] : List Data7).length + 1 ≠ st.kind.need := by simp [hneed]
    exact (ByteStep.chanKeep v st [] (.inr ⟨rfl, rfl, rfl⟩) hmore).exec_data_eq

/-! ### Overflow -/

/-- No Channel message is a Malformed: it carries a channel (R25). -/
theorem decodeChan_ne_malformed (st : ChanStatus) (d : List Data7) (b : Byte) (r : Reason) :
    decodeChan st d ≠ .malformed b r := by
  intro h
  have hchan := decodeChan_channel st d
  simp [h, Message.channel] at hchan

theorem decodeSysCom_ne_malformed (k : SysComKind) (d : List Data7) (b : Byte) (r : Reason) :
    decodeSysCom k d ≠ .malformed b r := by
  cases k <;> simp [decodeSysCom]

/-- The one Malformed that a Real-Time byte emits reports itself as undefined (R77, R78). -/
theorem eq_of_refRtMessage_eq_malformed {b b' : Byte} {r : Reason} (h : refRtMessage b = .malformed b' r) :
    b' = b ∧ r = .undefinedStatus := by
  unfold refRtMessage at h
  split_ifs at h
  cases h
  exact ⟨rfl, rfl⟩

/-- An overflow is reported only while a SysEx is active whose buffer is full (R112). -/
theorem bufferFull_of_feed_out_overflow {b b' : Byte} {s : State}
    (h : (feed b s).out = some (.malformed b' .sysexOverflow)) : ∃ p, s.pend = .sysEx p ∧ bufferFull s.cfg p = true := by
  have hstep := byteStep_feed b s
  generalize feed b s = t at hstep h
  cases hstep with
  | overflow v p hp hfull => exact ⟨p, hp, hfull⟩
  | chanComplete v st d _ _ => exact absurd (Option.some.inj h) (decodeChan_ne_malformed st _ _ _)
  | sysComComplete v k d _ _ => exact absurd (Option.some.inj h) (decodeSysCom_ne_malformed k _ _ _)
  | realTime hb => exact nomatch (eq_of_refRtMessage_eq_malformed (Option.some.inj h)).2
  | _ => simp at h

/-- Settles O32: `feed_dataByte_of_cap_reached` leaves both registers empty, for what follows; no overflow without a bound by
`bufferFull_of_feed_out_overflow`; the examples by running them. -/
theorem fullBufferOverflows : Obligations.FullBufferOverflows := by
  refine ⟨fun v s p hcap => ?_, fun v x s p hcap => ?_, fun b s b' hcap h => ?_, rfl, rfl, rfl⟩
  · exact (exec_data v _).trans (congrArg _ (feed_dataByte_of_cap_reached v rfl hcap))
  · have hover : feed (dataByte v) { s with rs := none, pend := .sysEx p } = _ := feed_dataByte_of_cap_reached v rfl hcap
    rw [trace, hover, trace_dataByte_of_fresh x rfl rfl, trace, hover, trace, feed_eox_of_inactive rfl]
    exact ⟨rfl, rfl⟩
  · obtain ⟨p, -, hfull⟩ := bufferFull_of_feed_out_overflow h
    simp [bufferFull, hcap] at hfull

/-! ### Orphans -/

/-- From empty registers every data byte is an orphan, and the registers stay empty (R116). -/
theorem orphans_run (vs : List Data7) {s : State} (hs : s.registers = (none, .empty)) :
    trace (vs.map dataByte) s = vs.map (fun v => some (.malformed (dataByte v) .orphanData)) ∧
    (feedAll (vs.map dataByte) s).registers = (none, .empty) := by
  induction vs generalizing s with
  | nil => exact ⟨rfl, hs⟩
  | cons v vs ih =>
    obtain ⟨hrs, hpend⟩ := Prod.mk.inj hs
    obtain ⟨hshown, hend⟩ := ih (s := orphan v s) hs
    rw [List.map_cons, trace, feedAll_cons, feed_dataByte_of_fresh v hpend hrs, hshown]
    exact ⟨rfl, hend⟩

/-- Settles O35: one orphan in full, any number by `orphans_run`, the example by running it. -/
theorem orphanDataByte : Obligations.OrphanDataByte :=
  ⟨fun v _ => (ByteStep.orphan v rfl rfl).exec_data_eq, fun vs _ hs => orphans_run vs hs, rfl⟩

/-! ### The transition table: a data byte, by the shape of the registers -/

/-- A data byte that continues a Channel message of the running status (R113, R114). -/
theorem feed_dataByte_openGroup_row (v : Data7) {s : State} {st : ChanStatus} {d : List Data7} (hrs : s.rs = some st)
    (hopen : s.OpenGroup st d) :
    ((feed (dataByte v) s).registers, (feed (dataByte v) s).out) =
      if d.length + 1 = st.kind.need then ((some st, .empty), some (decodeChan st (d ++ [v])))
      else ((some st, .chan st (d ++ [v])), none) := by
  rw [← hrs, feed_dataByte_of_openGroup v hopen]
  obtain ⟨hlast, he⟩ | ⟨hmore, he⟩ := chanAppend_cases st d v s
  · rw [if_pos hlast, he]; rfl
  · rw [if_neg hmore, he]; rfl

/-- A data byte of a pending System Common message, with no running status (R113). -/
theorem feed_dataByte_sysCom_row (v : Data7) {s : State} {k : SysComKind} {d : List Data7}
    (hs : s.registers = (none, .sysCom k d)) :
    ((feed (dataByte v) s).registers, (feed (dataByte v) s).out) =
      if d.length + 1 = k.need then ((none, .empty), some (decodeSysCom k (d ++ [v])))
      else ((none, .sysCom k (d ++ [v])), none) := by
  obtain ⟨hrs, hpend⟩ := Prod.mk.inj hs
  rw [← hrs, feed_dataByte_of_sysCom v hpend]
  obtain ⟨hlast, he⟩ | ⟨hmore, he⟩ := sysComAppend_cases k d v s
  · rw [if_pos hlast, he]; rfl
  · rw [if_neg hmore, he]; rfl

/-- A data byte of an active SysEx within the bound of R12, with no running status (R111, R112). -/
theorem feed_dataByte_sysEx_row (v : Data7) {s : State} {p : List Data7} (hs : s.registers = (none, .sysEx p))
    (hbound : s.payloadWithinCap = true) :
    ((feed (dataByte v) s).registers, (feed (dataByte v) s).out) =
      if s.cfg.sysexCap = some p.length then ((none, .empty), some (.malformed (dataByte v) .sysexOverflow))
      else ((none, .sysEx (p ++ [v])), none) := by
  obtain ⟨hrs, hpend⟩ := Prod.mk.inj hs
  have hfull_iff : bufferFull s.cfg p = true ↔ s.cfg.sysexCap = some p.length := by
    rw [bufferFull_iff_of_payloadWithinCap hbound hpend, eq_comm]
  rw [← hrs, feed_dataByte_of_sysEx v hpend]
  obtain ⟨hfull, he⟩ | ⟨hroom, he⟩ := sysexAppend_cases p v s
  · rw [if_pos (hfull_iff.mp hfull), he]; rfl
  · rw [if_neg (by simp [← hfull_iff, hroom]), he]; rfl

/-- The nine shapes of the registers, the rows of R125. -/
theorem registers_shapes_of_inv {s : State} (hs : s.inv = true) :
    s.registers = (none, .empty) ∨ (∃ st, s.registers = (some st, .empty) ∨ s.registers = (some st, .chan st []) ∨
      ∃ d1, st.kind.need = 2 ∧ s.registers = (some st, .chan st [d1])) ∨
    s.registers = (none, .sysCom .songSelect []) ∨ s.registers = (none, .sysCom .songPosition []) ∨
    (∃ d1, s.registers = (none, .sysCom .songPosition [d1])) ∨ ∃ p, s.registers = (none, .sysEx p) := by
  obtain ⟨hchan, hsys, hmore, -⟩ := s.inv_iff.mp hs
  obtain ⟨hsysCom, hsysEx⟩ := s.systemHasNoRs_iff.mp hsys
  obtain ⟨hchanLt, hsysComLt⟩ := s.pendingIncomplete_iff.mp hmore
  cases hp : s.pend with
  | empty =>
    cases hr : s.rs with
    | none => exact .inl (Prod.ext hr hp)
    | some st => exact .inr (.inl ⟨st, .inl (Prod.ext hr hp)⟩)
  | chan st d =>
    have hr := s.chanMatchesRs_iff.mp hchan st d hp
    obtain ⟨-, rfl | ⟨d1, rfl, hneed⟩⟩ := incomplete_data_shape st.kind.need_le_two (hchanLt st d hp)
    · exact .inr (.inl ⟨st, .inr (.inl (Prod.ext hr hp))⟩)
    · exact .inr (.inl ⟨st, .inr (.inr ⟨d1, hneed, Prod.ext hr hp⟩)⟩)
  | sysCom k d =>
    have hr := hsysCom k d hp
    obtain ⟨-, rfl | ⟨d1, rfl, hneed⟩⟩ := incomplete_data_shape k.need_le_two (hsysComLt k d hp)
    · cases k with
      | songSelect => exact .inr (.inr (.inl (Prod.ext hr hp)))
      | songPosition => exact .inr (.inr (.inr (.inl (Prod.ext hr hp))))
    · cases k with
      | songSelect => exact nomatch hneed
      | songPosition => exact .inr (.inr (.inr (.inr (.inl ⟨d1, Prod.ext hr hp⟩))))
  | sysEx p => exact .inr (.inr (.inr (.inr (.inr ⟨p, Prod.ext (hsysEx p hp) hp⟩))))

/-! ### The transition table: a status byte, in every state -/

theorem State.sysexActive_eq_isSome_payload (s : State) : s.sysexActive = s.payload.isSome := by
  cases hp : s.pend <;> simp [State.sysexActive, State.payload, hp]

/-- Settles O53: the columns of status bytes by what each class does in every state, 0xF7 by the payload there is; the data
column by the row lemma of each shape; the shapes by `registers_shapes_of_inv`. -/
theorem transitionTable : Obligations.TransitionTable := by
  refine ⟨fun b s hb => ?realTime, fun _ => ⟨rfl, rfl⟩, fun s => ?eox, fun _ => ⟨rfl, rfl⟩, fun _ => ⟨rfl, rfl⟩,
    fun _ => ⟨rfl, rfl⟩, fun b s hb => ?undefined, fun st s => ?channel, fun v s hs => ?fresh, fun v s st hs => ?opened,
    fun v d1 s st hneed hs => ?second, fun v s hs => Prod.mk.inj (feed_dataByte_sysCom_row v hs),
    fun v s hs => Prod.mk.inj (feed_dataByte_sysCom_row v hs), fun v d1 s hs => Prod.mk.inj (feed_dataByte_sysCom_row v hs),
    fun v s p hs hinv => ?sysEx, fun s => registers_shapes_of_inv⟩
  case realTime => rw [feed_realTime b s hb]; exact ⟨rfl, rfl⟩
  case eox =>
    cases hpay : s.payload with
    | none => rw [feed_eox_of_inactive (by simp [State.sysexActive_eq_isSome_payload, hpay])]; exact ⟨rfl, rfl⟩
    | some p => rw [feed_eox_of_sysEx ((s.payload_eq_some_iff p).mp hpay)]; exact ⟨rfl, rfl⟩
  case undefined => rw [feed_undefinedCommon hb]; exact ⟨rfl, rfl⟩
  case channel => rw [feed_chanStatus]; exact ⟨rfl, rfl⟩
  case fresh =>
    obtain ⟨hrs, hpend⟩ := Prod.mk.inj hs
    rw [feed_dataByte_of_fresh v hpend hrs]
    exact ⟨hs, rfl⟩
  case opened =>
    obtain ⟨hrs, hopen⟩ : s.rs = some st ∧ s.OpenGroup st [] := by
      obtain hs | hs := hs <;> obtain ⟨hrs, hpend⟩ := Prod.mk.inj hs
      · exact ⟨hrs, openGroup_of_registers hs⟩
      · exact ⟨hrs, .inl hpend⟩
    simpa [eq_comm] using feed_dataByte_openGroup_row v hrs hopen
  case second =>
    obtain ⟨hrs, hpend⟩ := Prod.mk.inj hs
    exact Prod.mk.inj ((feed_dataByte_openGroup_row v hrs (.inl hpend)).trans (if_pos hneed.symm))
  case sysEx =>
    obtain ⟨-, -, -, hbound⟩ := s.inv_iff.mp hinv
    exact feed_dataByte_sysEx_row v hs hbound

end Sys2Proof.Machine
end

section
/-! PROOFS. Malformed conditions: what raises each, and the registers it leaves (R130 to R137, R139, R143). -/

namespace Sys2Proof.Machine

/-! ### When a condition is raised -/

/-- What makes the byte `b` raise each Malformed condition in the state `s` (R131, R132, R134, R137). -/
def State.Raises (s : State) (b : Byte) : Reason → Prop
  | .orphanData => isDataByte b = true ∧ s.pend = .empty ∧ s.rs = none
  | .unexpectedEox => b = 0xF7 ∧ s.payload = none
  | .undefinedStatus => isUndefinedStatus b = true
  | .sysexOverflow => isDataByte b = true ∧ ∃ p, s.pend = .sysEx p ∧ bufferFull s.cfg p = true

/-- With no buffer no SysEx is active (R12, R19). -/
theorem State.sysexActive_eq_false_iff (s : State) : s.sysexActive = false ↔ s.payload = none := by
  simp [State.sysexActive_eq_isSome_payload]

/-- The five undefined bytes: three System Common, two Real-Time (R55). -/
theorem isUndefinedStatus_iff (b : Byte) :
    isUndefinedStatus b = true ↔ b = 0xF1 ∨ b = 0xF4 ∨ b = 0xF5 ∨ b = 0xF9 ∨ b = 0xFD := by
  simp [isUndefinedStatus, or_assoc]

/-- The undefined Real-Time bytes are 0xF9 and 0xFD (R77, R78). -/
theorem isRealTime_iff_of_isUndefinedStatus {b : Byte} (h : isUndefinedStatus b = true) :
    isRealTime b = true ↔ b = 0xF9 ∨ b = 0xFD := by
  obtain rfl | rfl | rfl | rfl | rfl := (isUndefinedStatus_iff b).mp h <;> decide

/-- A Real-Time byte that emits a Malformed is undefined (R77, R78). -/
theorem isUndefinedStatus_of_refRtMessage {b : Byte} {r : Reason} (hb : isRealTime b = true)
    (h : refRtMessage b = .malformed b r) : isUndefinedStatus b = true := by
  have hlegal := refRtMessage_legal b hb
  rwa [h, (eq_of_refRtMessage_eq_malformed h).2] at hlegal

/-- A Malformed is emitted only where its condition is met, and carries the byte being consumed (R130). -/
theorem raises_of_feed_out_malformed {b b' : Byte} {s : State} {r : Reason}
    (h : (feed b s).out = some (.malformed b' r)) : b' = b ∧ s.Raises b r := by
  have hstep := byteStep_feed b s
  generalize feed b s = t at hstep h
  cases hstep with
  | sysExKeep | chanKeep | sysComKeep | channelStatus | sox | awaitSysCom | endSysEx | tuneRequest => simp at h
  | chanComplete v st d => exact absurd (Option.some.inj h) (decodeChan_ne_malformed st _ _ _)
  | sysComComplete v k d => exact absurd (Option.some.inj h) (decodeSysCom_ne_malformed k _ _ _)
  | overflow v p hp hfull => cases h; exact ⟨rfl, (dataByte_class v).1, p, hp, hfull⟩
  | orphan v hp hr => cases h; exact ⟨rfl, (dataByte_class v).1, hp, hr⟩
  | unexpectedEox hidle => cases h; exact ⟨rfl, rfl, s.sysexActive_eq_false_iff.mp hidle⟩
  | undefinedCommon hb => cases h; exact ⟨rfl, by obtain rfl | rfl | rfl := hb <;> rfl⟩
  | realTime hb =>
    obtain ⟨rfl, rfl⟩ := eq_of_refRtMessage_eq_malformed (Option.some.inj h)
    exact ⟨rfl, isUndefinedStatus_of_refRtMessage hb (Option.some.inj h)⟩

/-- Where its condition is met a Malformed is emitted. -/
theorem feed_out_of_raises {b : Byte} {s : State} {r : Reason} (h : s.Raises b r) :
    (feed b s).out = some (.malformed b r) := by
  cases r with
  | orphanData =>
    obtain ⟨hb, hp, hr⟩ := h
    rw [← dataByte_extractLsb' b hb, feed_dataByte_of_fresh _ hp hr]; rfl
  | unexpectedEox =>
    obtain ⟨rfl, hpay⟩ := h
    rw [feed_eox_of_inactive (s.sysexActive_eq_false_iff.mpr hpay)]; rfl
  | undefinedStatus => obtain rfl | rfl | rfl | rfl | rfl := (isUndefinedStatus_iff b).mp h <;> rfl
  | sysexOverflow =>
    obtain ⟨hb, p, hp, hfull⟩ := h
    rw [← dataByte_extractLsb' b hb, (ByteStep.overflow _ p hp hfull).feed_eq]; rfl

/-- Exactly when a step emits which Malformed, in every state. -/
theorem feed_out_malformed_iff (b : Byte) (s : State) (r : Reason) :
    (feed b s).out = some (.malformed b r) ↔ s.Raises b r :=
  ⟨fun h => (raises_of_feed_out_malformed h).2, feed_out_of_raises⟩

/-- Settles O39: the byte and the condition by `raises_of_feed_out_malformed`; each condition limits the byte, and a full
buffer has a finite capacity. -/
theorem malformedCarriesTheConsumedByte : Obligations.MalformedCarriesTheConsumedByte := by
  refine ⟨⟨rfl, rfl, rfl, rfl⟩, fun b b' s r h => ?_⟩
  obtain ⟨hbyte, hraises⟩ := raises_of_feed_out_malformed h
  refine ⟨hbyte, ?_, ?_, ?_, ?_⟩ <;> rintro rfl
  · exact hraises.1
  · exact hraises.1
  · exact (isUndefinedStatus_iff b).mp hraises
  · obtain ⟨hb, p, -, hfull⟩ := hraises
    obtain ⟨cap, hcap, -⟩ := (bufferFull_iff s.cfg p).mp hfull
    exact ⟨hb, by simp [hcap]⟩

/-! ### The registers a condition leaves -/

/-- Every Malformed leaves empty registers, except that a Real-Time byte leaves them as they were (R131, R132, R134,
R137). R15 is what makes an overflow leave no running status. -/
theorem feed_registers_of_malformed {b : Byte} {s : State} {r : Reason} (hs : s.systemHasNoRs = true)
    (h : (feed b s).out = some (.malformed b r)) :
    (feed b s).registers = if isRealTime b = true then s.registers else (none, .empty) := by
  cases hrt : isRealTime b with
  | true => rw [feed_realTime b s hrt]; rfl
  | false =>
    have hraises := (feed_out_malformed_iff b s r).mp h
    cases r with
    | orphanData =>
      obtain ⟨hb, hp, hr⟩ := hraises
      rw [← dataByte_extractLsb' b hb, feed_dataByte_of_fresh _ hp hr]
      exact Prod.ext hr hp
    | unexpectedEox =>
      obtain ⟨rfl, hpay⟩ := hraises
      rw [feed_eox_of_inactive (s.sysexActive_eq_false_iff.mpr hpay)]; rfl
    | undefinedStatus =>
      obtain rfl | rfl | rfl | rfl | rfl := (isUndefinedStatus_iff b).mp hraises
      · rfl
      · rfl
      · rfl
      · exact nomatch hrt
      · exact nomatch hrt
    | sysexOverflow =>
      obtain ⟨hb, p, hp, hfull⟩ := hraises
      rw [← dataByte_extractLsb' b hb, (ByteStep.overflow _ p hp hfull).feed_eq]
      exact Prod.ext ((s.systemHasNoRs_iff.mp hs).2 p hp) rfl

/-- A condition raised by any other than a Real-Time byte leaves both registers empty. -/
theorem feed_registers_of_malformed_of_not_realTime {b : Byte} {s : State} {r : Reason} (hs : s.systemHasNoRs = true)
    (h : (feed b s).out = some (.malformed b r)) (hrt : isRealTime b = false) : (feed b s).registers = (none, .empty) := by
  rw [feed_registers_of_malformed hs h, hrt]; rfl

/-- No data byte is a Real-Time byte (R46, R47). -/
theorem isRealTime_eq_false_of_isDataByte {b : Byte} (h : isDataByte b = true) : isRealTime b = false := by
  rw [← dataByte_extractLsb' b h]
  exact (dataByte_class _).2.2.2

/-- Settles O40: each condition by `feed_out_malformed_iff`, a full buffer being one of `SYSEX_CAP` bytes by the bound of
R12; the registers by `feed_registers_of_malformed`; from empty registers every data byte is an orphan (`orphans_run`). -/
theorem malformedExactlyWhen : Obligations.MalformedExactlyWhen := by
  intro b s hinv
  obtain ⟨-, hsys, -, hbound⟩ := s.inv_iff.mp hinv
  have hempty {r : Reason} := feed_registers_of_malformed_of_not_realTime (b := b) (r := r) hsys
  have hwhen := feed_out_malformed_iff b s
  refine ⟨hwhen .orphanData, fun h => ?orphan, hwhen .unexpectedEox, fun h => ?eox, hwhen .undefinedStatus,
    fun h => ?undefined, ?overflowWhen, fun h => ?overflow, fun r vs h hrt => (orphans_run vs (hempty h hrt)).1⟩
  case orphan =>
    obtain ⟨hb, hp, hr⟩ := (hwhen .orphanData).mp h
    rw [hempty h (isRealTime_eq_false_of_isDataByte hb)]
    exact (Prod.ext hr hp).symm
  case eox =>
    obtain ⟨rfl, -⟩ := (hwhen .unexpectedEox).mp h
    exact hempty h rfl
  case undefined =>
    rw [feed_registers_of_malformed hsys h]
    simp only [isRealTime_iff_of_isUndefinedStatus ((hwhen .undefinedStatus).mp h)]
  case overflowWhen =>
    refine (hwhen .sysexOverflow).trans (and_congr_right fun _ => exists_congr fun p => and_congr_right fun hp => ?_)
    rw [bufferFull_iff_of_payloadWithinCap hbound hp, eq_comm]
  case overflow => exact hempty h (isRealTime_eq_false_of_isDataByte ((hwhen .sysexOverflow).mp h).1)

/-! ### Aborts, one message per step, totality -/

/-- Settles O41, by `feed_status_eq_fresh`; the example by running it. -/
theorem abortLeavesNoTrace : Obligations.AbortLeavesNoTrace :=
  ⟨fun _ _ => feed_status_eq_fresh, fun _ => rfl⟩

/-- A stream emits at most one message per byte (R139). -/
theorem emitted_length_le (w : List Byte) (s : State) : (emitted w s).length ≤ w.length := by
  calc (emitted w s).length ≤ (trace w s).length := List.length_filterMap_le _ _
    _ = w.length := trace_length w s

/-- Settles O42: one step by `feed_sink`, a stream by `emitted_length_le`; where an abort coincides with a report or a Tune
Request the step is a clear and one message. -/
theorem atMostOneMessagePerStep : Obligations.AtMostOneMessagePerStep := by
  refine ⟨feed_sink, emitted_length_le, fun s hidle => ?_, fun b s hb => ?_, fun _ => rfl⟩
  · rw [feed_eox_of_inactive hidle]; rfl
  · rw [feed_undefinedCommon hb]; rfl

/-- Every step boundary answers a next state (R143). -/
theorem step_next (s : State) : ∃ t, step s = .next t := by
  unfold step
  split
  · exact ⟨_, rfl⟩
  · split
    · exact exec_next _ _
    · exact ⟨_, rfl⟩

/-- Settles O43: an instruction is the one its byte decodes to (`decode_encode`), and a byte's answer is `feed`
(`exec_decode`). -/
theorem everyStepIsTotal : Obligations.EveryStepIsTotal := by
  refine ⟨fun i s => ?_, exec_decode, step_next⟩
  rw [← exec_decode, decode_encode]

end Sys2Proof.Machine
end

section
/-! PROOFS. The reset port, streams joined in the middle, and what decides a step (R150 to R162). -/

namespace Sys2Proof.Machine

/-! ### Reset -/

/-- No byte empties both registers in silence: a silent step leaves a message pending (R150). -/
theorem feed_out_ne_none_of_registers_empty {b : Byte} {s : State} (h : (feed b s).registers = (none, .empty)) :
    (feed b s).out ≠ none := by
  have hstep := byteStep_feed b s
  generalize feed b s = t at hstep h ⊢
  cases hstep with
  | sysExKeep | chanKeep | sysComKeep | channelStatus | sox | awaitSysCom => simp [State.registers] at h
  | overflow | chanComplete | sysComComplete | orphan | endSysEx | unexpectedEox | tuneRequest | undefinedCommon
  | realTime => exact Option.some_ne_none _

/-- The byte at the reset boundary is passed over: the machine goes on with the next one, from empty registers (R159). -/
theorem core_run_reset_present (s : State) (v : Bool) (b b' : Byte) (rest : List PortIn) :
    core.run 2 { s with input := { reset := true, inValid := v, inByte := b } ::
        { reset := false, inValid := true, inByte := b' } :: rest } =
      .next (feed b' (State.applyReset { s with input := rest })) := by
  rw [core_run_succ 1 (step_reset s v b _)]
  exact core_run_succ 0 (step_present (State.applyReset s) b' rest)

/-- Settles O5: a reset boundary by `step_reset`; the first byte after it by `core_run_reset_present`, and `feed_congr`
since its registers and build are those of a fresh decoder; no byte resets by `feed_out_ne_none_of_registers_empty`. -/
theorem resetIsThePortsAlone : Obligations.ResetIsThePortsAlone := by
  refine ⟨fun _ => ⟨rfl, rfl⟩, fun s p v b rest => ⟨_, step_reset { s with pend := p } v b rest, rfl, rfl, rfl⟩,
    fun s b b' rest => ?_, fun b s ⟨hregs, hout⟩ => feed_out_ne_none_of_registers_empty hregs hout, fun _ => rfl⟩
  obtain ⟨hregs, hout⟩ :=
    feed_congr b' (s := State.applyReset { s with input := rest }) (s' := State.resetWith s.cfg) rfl rfl
  exact ⟨_, core_run_reset_present s true b b' rest, hregs, hout, feed_input b' _⟩

/-! ### Streams -/

@[simp] theorem feedAll_cfg (w : List Byte) (s : State) : (feedAll w s).cfg = s.cfg := by
  induction w generalizing s with
  | nil => rfl
  | cons b w ih => rw [feedAll_cons, ih, feed_cfg]

/-- Settles O36: the data bytes by `orphans_run`; they leave the registers and the build, which alone decide what the
next byte does (`feed_congr`), whatever its class. -/
theorem streamMayBeginAnywhere : Obligations.StreamMayBeginAnywhere := by
  refine ⟨fun vs s hs => ?orphans, fun s hs => ?eox, fun vs s b hs _ => ?next⟩
  case orphans =>
    obtain ⟨htrace, hend⟩ := orphans_run vs hs
    exact ⟨by simp [emitted, htrace], hend⟩
  case eox =>
    obtain ⟨-, hpend⟩ := Prod.mk.inj hs
    rw [feed_eox_of_inactive (by simp [State.sysexActive, hpend])]
    exact ⟨rfl, rfl⟩
  case next =>
    obtain ⟨-, hend⟩ := orphans_run vs hs
    exact feed_congr b (hend.trans hs.symm) (feedAll_cfg _ s)

/-- Settles O51, by `feed_congr` and `run_congr`. -/
theorem stepIsDeterminedByRegisters : Obligations.StepIsDeterminedByRegisters :=
  ⟨fun b _ _ => feed_congr b, fun w _ _ => run_congr w⟩

/-- Settles O57: a run is a fold over its bytes, and a fold over chunks is the fold over their concatenation. -/
theorem chunkBoundariesAreInvisible : Obligations.ChunkBoundariesAreInvisible :=
  fun _ _ => List.foldl_flatten.symm

end Sys2Proof.Machine
end

section
/-! PROOFS. The invariant of the decoder at reset (10_state.md section 2). -/

namespace Sys2Proof.Machine

/-- Settles O2: nothing is pending after reset (R23), and with nothing pending every clause of the invariant holds,
whatever the build. -/
theorem resetMeetsDecoderInvariant : Obligations.ResetMeetsDecoderInvariant :=
  fun cfg => State.inv_of_pend_empty (State.resetWith_pend cfg)

end Sys2Proof.Machine
end
